-- ==== Sys2Proof/Word.lean ====
section
/-! DEFINITION. The two word types of CORE: the 32-bit register word (20 R42) and the 48-bit command word (30 R57). -/

namespace Sys2Proof

/-- A 32-bit register, operand or result word (20 R42). Its reading (unsigned, Q8.24, UQ16.16) is each
rule's own; `Machine.s32` is the signed one. -/
abbrev Word := BitVec 32

/-- A 48-bit command word (30 R57). -/
abbrev Command := BitVec 48

end Sys2Proof
end

