-- ==== Sys2Proof/Syntax.lean ====
section
/-! DEFINITION. The nine commands of CORE as an inductive type, one constructor per row of the opcode map (30 R59). -/

namespace Sys2Proof

/-- A command. Operands are the fields `idx` and `data` of the command word as they stand (30 R57: no field is
sign-extended, scaled or shifted by the decoder). -/
inductive Instr where
  /-- `NOP`, 47 R215. -/
  | nop
  /-- `SAMPLE x`, 45 R165: one input sample, Q8.24. -/
  | sample (x : Word)
  /-- `REGULATE`, 46 R201. -/
  | regulate
  /-- `SETTGT v`, 46 R210: the target level, Q8.24. -/
  | settgt (v : Word)
  /-- `WRCFG i, v`, 47 R216: configuration index and value. -/
  | wrcfg (i : BitVec 8) (v : Word)
  /-- `RDREG i`, 47 R217: register index. -/
  | rdreg (i : BitVec 8)
  /-- `START`, 47 R218. -/
  | start
  /-- `RGINIT`, 46 R209. -/
  | rginit
  /-- `RESET`, 47 R227. -/
  | reset
deriving DecidableEq, Repr

end Sys2Proof
end

