-- ==== Sys2Proof/Decode.lean ====
section
/-! DEFINITION. The decoder of 48-bit command words (30 R57, R60 checks 1 and 2), total and rejecting by name, and the encoder
(30 R57, R59, R64). The mode and index checks (R60 checks 3 and 4) are part of the meanings. -/

namespace Sys2Proof

/-- Why a word is no command (60 R237). -/
inductive DecodeError where
  /-- `op` is 0x9 .. 0xF (30 R61); answered with `ERR_OPCODE`. -/
  | opcode
  /-- a must-be-zero field is not zero (30 R62); answered with `ERR_FIELD`. -/
  | field
deriving DecidableEq, Repr

/-- What the decoder answers. -/
inductive Decoded where
  /-- the command the word encodes -/
  | command (i : Instr)
  /-- no command, for the reason given -/
  | illegal (e : DecodeError)
deriving DecidableEq, Repr

/-- Bits 47:44 of the command word (30 R57). -/
def opField (w : Command) : BitVec 4 := w.extractLsb' 44 4

/-- Bits 43:40, reserved (30 R57). -/
def rsvField (w : Command) : BitVec 4 := w.extractLsb' 40 4

/-- Bits 39:32, the register index (30 R57). -/
def idxField (w : Command) : BitVec 8 := w.extractLsb' 32 8

/-- Bits 31:0, the operand word (30 R57). -/
def dataField (w : Command) : Word := w.extractLsb' 0 32

/-- The commands that use `idx`: `WRCFG` and `RDREG` (30 R57). -/
def opUsesIdx (op : BitVec 4) : Bool := op == 4#4 || op == 5#4

/-- The commands that use `data`: `SAMPLE`, `SETTGT` and `WRCFG` (30 R57). -/
def opUsesData (op : BitVec 4) : Bool := op == 1#4 || op == 3#4 || op == 4#4

/-- The opcode map (30 R59): the command an opcode stands for; none for the reserved opcodes (30 R61). -/
def instrOfOp (op : BitVec 4) (idx : BitVec 8) (data : Word) : Option Instr :=
  match op with
  | 0x0#4 => some .nop
  | 0x1#4 => some (.sample data)
  | 0x2#4 => some .regulate
  | 0x3#4 => some (.settgt data)
  | 0x4#4 => some (.wrcfg idx data)
  | 0x5#4 => some (.rdreg idx)
  | 0x6#4 => some .start
  | 0x7#4 => some .rginit
  | 0x8#4 => some .reset
  | _ => none

/-- Check 2 of 30 R60: a must-be-zero field is not zero. -/
def fieldViolation (w : Command) : Bool :=
  rsvField w != 0#4
    || (idxField w != 0#8 && !opUsesIdx (opField w))
    || (dataField w != 0#32 && !opUsesData (opField w))

/-- Checks 1 and 2 of 30 R60, in that order; the first that fails decides (60 R238). -/
def decode (w : Command) : Decoded :=
  match instrOfOp (opField w) (idxField w) (dataField w) with
  | none => .illegal .opcode
  | some i => if fieldViolation w then .illegal .field else .command i

/-- A command word from its fields, `{op, 0b0000, idx, data}` (30 R64). -/
def packWord (op : BitVec 4) (idx : BitVec 8) (data : Word) : Command :=
  op ++ 0#4 ++ idx ++ data

/-- The command word of an instruction (30 R57, R59). -/
def encode : Instr → Command
  | .nop => packWord 0x0#4 0#8 0#32
  | .sample x => packWord 0x1#4 0#8 x
  | .regulate => packWord 0x2#4 0#8 0#32
  | .settgt v => packWord 0x3#4 0#8 v
  | .wrcfg i v => packWord 0x4#4 i v
  | .rdreg i => packWord 0x5#4 i 0#32
  | .start => packWord 0x6#4 0#8 0#32
  | .rginit => packWord 0x7#4 0#8 0#32
  | .reset => packWord 0x8#4 0#8 0#32

/-- The instruction `decode` reads from the `nbits`-bit table word `w`, bits above `nbits` being 0. A command is one
48-bit word and CORE defines no byte order (20 R42), so the table's numbering is the word's own. -/
def decodeTableWord (nbits w : Nat) : Option Instr :=
  match decode (BitVec.ofNat 48 (w % 2 ^ nbits)) with
  | .command i => some i
  | .illegal _ => none

end Sys2Proof
end

