-- ==== Sys2Proof/Config.lean ====
section
/-! DEFINITION. What an implementation of CORE fixes: the constants of 00 R4, and the one parameter the spec leaves
open, the waveform `WAVE` (00 R4, 41 R106, 92 D4), as an opaque constant. -/

namespace Sys2Proof.Config

/-- `ONE`, the Q8.24 word of the real number 1 (00 R4). -/
def one : Int := 16777216

/-- `QMAX`, the upper saturation bound of Q8.24 (00 R4). -/
def qMax : Int := 2147483647

/-- `QMIN`, the lower saturation bound of Q8.24 (00 R4). -/
def qMin : Int := -2147483648

/-- `FREQ_MAX`, the largest frequency word, half a cycle per sample (00 R4). -/
def freqMax : Int := 2147483648

/-- `PERIOD_RAW_MAX`, the largest raw edge-to-edge interval kept (00 R4). -/
def periodRawMax : Nat := 65535

/-- `SEMI`, the semitone ratio 1.059463 as a Q8.24 word (00 R4, 45 R172). -/
def semi : Nat := 17774840

/-- The free value behind `WAVE` (00 R4: "open: a function from a 32-bit phase to a Q8.24 word"). It has no body, so
nothing can be proved of it; `Machine.wave` reads it under the constraints (b) and (c) of 41 R106.
DESIGN CHOICE of form, log entry 3; safe. -/
opaque waveRaw : Word → Word

end Sys2Proof.Config
end

