-- ==== Sys2Proof/Machine/Arith.lean ====
section
/-! DEFINITION. The fixed-point primitives of `40_arithmetic.md`, on mathematical integers: "All operands and results below are
mathematical integers; a Q8.24 word `w` enters as `s32(w)`". -/

namespace Sys2Proof.Machine

/-- `s32` of a word: its two's-complement reading (40 R87, 00 R6). -/
def s32 (w : Word) : Int := w.toInt

/-- `u32(v) = v mod 2^32`, as a register word (40 R87); also how a Q8.24 result is kept as its two's-complement word. -/
def u32 (v : Int) : Word := BitVec.ofInt 32 v

/-- `clamp(v, lo, hi)` (00 R6). -/
def clamp (v lo hi : Int) : Int := min (max v lo) hi

/-- `sat(v)` (40 R81). -/
def sat (v : Int) : Int :=
  if v > Config.qMax then Config.qMax else if v < Config.qMin then Config.qMin else v

/-- `addq` (40 R82). -/
def addq (a b : Int) : Int := sat (a + b)

/-- `subq` (40 R82). -/
def subq (a b : Int) : Int := sat (a - b)

/-- `negq` (40 R83). -/
def negq (a : Int) : Int := sat (-a)

/-- `absq` (40 R83). -/
def absq (a : Int) : Int := sat (if a < 0 then -a else a)

/-- `floor(v / 2^24)`, the rescaling of an exact product (40 R84; 00 R6). Division of `Int` by a positive number is
the floor. -/
def floor24 (v : Int) : Int := v / 16777216

/-- `mulq(a, b) = sat(floor(a * b / 2^24))` (40 R84). -/
def mulq (a b : Int) : Int := sat (floor24 (a * b))

/-- `recipq(e)` (40 R85); `281474976710656` is `2^48`. -/
def recipq (e : Int) : Int :=
  if e ≤ 0 then Config.qMax else min (281474976710656 / e) Config.qMax

/-- `lp1(y, x, a)`, one step of a one-pole low-pass (40 R86). -/
def lp1 (y x a : Int) : Int := addq y (mulq a (subq x y))

/-- `v << n` on unbounded integers (40 R88). -/
def shl (v : Int) (n : Nat) : Int := v * 2 ^ n

/-- `v >> n = floor(v / 2^n)` on unbounded integers (40 R88). -/
def shr (v : Int) (n : Nat) : Int := v >>> n

end Sys2Proof.Machine
end

