-- ==== Sys2Proof/Machine/State.lean ====
section
/-! DEFINITION. The state of CORE as plain data: every register of 10 R11 to R21, grouped by the unit that owns it, and the
two ports of 30 R56 that a step reads and writes. Reset is 70 R260 and 10 R27. -/

namespace Sys2Proof.Machine

/-- The Stage (10 R16): all four patterns of the 2-bit register are stages. -/
inductive Stage where
  /-- encoded 0 -/
  | stopped
  /-- encoded 1 -/
  | waiting
  /-- encoded 2 -/
  | running
  /-- encoded 3 -/
  | releasing
deriving DecidableEq, Repr

/-- Oscillator state (10 R11). -/
structure OscState where
  /-- `FREQ`, unsigned, legal range 0 .. 2^31 -/
  freq : Word
  /-- `PHASE`, unsigned, any value -/
  phase : Word
deriving DecidableEq, Repr

/-- Signal Conditioner state (10 R12, R13). -/
structure AgcState where
  /-- `DC`, Q8.24 -/
  dc : Word
  /-- `LP`, Q8.24 -/
  lp : Word
  /-- `ENV`, Q8.24, never negative -/
  env : Word
  /-- `GATE`, the ActivityGate -/
  gate : Bool
deriving DecidableEq, Repr

/-- Cycle Trigger state (10 R14). -/
structure TriggerState where
  /-- `PHP`, Q8.24, never negative -/
  php : Word
  /-- `PHN`, Q8.24, never negative -/
  phn : Word
  /-- `CMPP` -/
  cmpp : Bool
  /-- `CMPN` -/
  cmpn : Bool
  /-- `TRIG`: true stands for +1, false for -1 -/
  trig : Bool
deriving DecidableEq, Repr

/-- PLL state (10 R15). -/
structure PllState where
  /-- `FF_SIG` -/
  ffSig : Bool
  /-- `FF_REF` -/
  ffRef : Bool
  /-- `PREV_SIG` -/
  prevSig : Bool
  /-- `PREV_REF` -/
  prevRef : Bool
  /-- `PREV_ERR`, 2-bit two's complement; the pattern 0b10 never occurs -/
  prevErr : BitVec 2
deriving DecidableEq, Repr

/-- Sustain State Machine state (10 R16). -/
structure FsmState where
  /-- `STAGE` -/
  stage : Stage
  /-- `SYNCED` -/
  synced : Bool
  /-- `TICK`, unsigned, wraps -/
  tick : Word
  /-- `LAST_EDGE`, unsigned, 0 for none -/
  lastEdge : Word
  /-- `PERIOD_EST`, UQ16.16, 0 for not yet measured -/
  periodEst : Word
  /-- `OUTL_ACC`, UQ16.16 -/
  outlAcc : Word
  /-- `OUTL_CNT`, unsigned -/
  outlCnt : BitVec 8
  /-- `PH_OFS`, a phase word -/
  phOfs : Word
deriving DecidableEq, Repr

/-- LevelControllerState and the running output gain (10 R17). -/
structure LevelState where
  /-- `REG_INT`, Q8.24 -/
  integ : Word
  /-- `REG_PERR`, Q8.24 -/
  perr : Word
  /-- `GAIN`, Q8.24 -/
  gain : Word
deriving DecidableEq, Repr

/-- Output registers (10 R18). -/
structure OutState where
  /-- `SYNTH`, Q8.24 -/
  synth : Word
  /-- `OUT`, Q8.24 -/
  out : Word
deriving DecidableEq, Repr

/-- The configuration registers (10 R21), indices 0x00 .. 0x18 in this order. Each holds any 32-bit word; its reading is
the using rule's. -/
structure ConfigRegs where
  /-- 0x00 `CFG_SPS` -/
  sps : Word
  /-- 0x01 `CFG_LATENCY` -/
  latency : Word
  /-- 0x02 `CFG_START_PHASE` -/
  startPhase : Word
  /-- 0x03 `CFG_MODE` -/
  mode : Word
  /-- 0x04 `CFG_DC_A` -/
  dcA : Word
  /-- 0x05 `CFG_LP_A_LO` -/
  lpALo : Word
  /-- 0x06 `CFG_LP_A_HI` -/
  lpAHi : Word
  /-- 0x07 `CFG_ENV_ATT` -/
  envAtt : Word
  /-- 0x08 `CFG_ENV_REL` -/
  envRel : Word
  /-- 0x09 `CFG_GATE_LO` -/
  gateLo : Word
  /-- 0x0A `CFG_GATE_HI` -/
  gateHi : Word
  /-- 0x0B `CFG_AGC_GMAX` -/
  agcGmax : Word
  /-- 0x0C `CFG_TRIG_DECAY` -/
  trigDecay : Word
  /-- 0x0D `CFG_TRIG_SENS` -/
  trigSens : Word
  /-- 0x0E `CFG_TRIG_HYST` -/
  trigHyst : Word
  /-- 0x0F `CFG_PLL_SHIFTS` -/
  pllShifts : Word
  /-- 0x10 `CFG_PER_A` -/
  perA : Word
  /-- 0x11 `CFG_OUTLIER_N` -/
  outlierN : Word
  /-- 0x12 `CFG_SYNC_SHIFT` -/
  syncShift : Word
  /-- 0x13 `CFG_PID_KP` -/
  pidKp : Word
  /-- 0x14 `CFG_PID_KI` -/
  pidKi : Word
  /-- 0x15 `CFG_PID_KD` -/
  pidKd : Word
  /-- 0x16 `CFG_PID_DT` -/
  pidDt : Word
  /-- 0x17 `CFG_PID_RATE` -/
  pidRate : Word
  /-- 0x18 `CFG_MAX_GAIN` -/
  maxGain : Word
deriving DecidableEq, Repr

/-- What the host's side of the ports presents next (30 R56). -/
inductive HostEvent where
  /-- a command word with `cmd_valid = 1`, accepted by CORE -/
  | command (w : Command)
  /-- the `rst` port sampled at 1 -/
  | rst
deriving DecidableEq, Repr

/-- One response (30 R56, R58). -/
structure Response where
  /-- `rsp_err` -/
  err : BitVec 4
  /-- `rsp_data` -/
  data : Word
  /-- `rsp_status` -/
  status : BitVec 8
deriving DecidableEq, Repr

/-- The machine. All fields but `host` and `rsp` are the registers of 10 R11 to R21 ("The state of CORE is exactly the
registers of rules R11 to R21", 10 R10). `host` and `rsp` are the model's own: the ports of 30 R56 (log entries 1 and 2). -/
structure State where
  /-- oscillator, 10 R11 -/
  osc : OscState
  /-- Signal Conditioner, 10 R12 and R13 -/
  agc : AgcState
  /-- Cycle Trigger, 10 R14 -/
  trg : TriggerState
  /-- phase detector and loop filter, 10 R15 -/
  pll : PllState
  /-- Sustain State Machine, 10 R16 -/
  fsm : FsmState
  /-- Level Regulator, 10 R17 -/
  reg : LevelState
  /-- output registers, 10 R18 -/
  out : OutState
  /-- `RUN`, 10 R19: false is CONFIG mode, true is RUN mode -/
  run : Bool
  /-- `ERR`, 10 R19: the first command error since reset, 0 for none -/
  err : BitVec 4
  /-- `TARGET`, 10 R20, Q8.24 -/
  target : Word
  /-- configuration registers, 10 R21 -/
  cfg : ConfigRegs
  /-- what the host will present, in order (20 R46; log entry 1) -/
  host : List HostEvent
  /-- the response the last step drove, if it drove one (30 R56; log entry 2) -/
  rsp : Option Response
deriving DecidableEq, Repr

/-- Reasons for the machine to stop with a fault. There are none: "no arithmetic or signal condition raises anything"
(60 R235), a command error is a response and the next command is decoded afresh (60 R236), and CORE "has no halt and no
end state" (70 R271). -/
inductive Fault : Type
deriving DecidableEq, Repr

/-- Reasons for the model to have no meaning for an instruction. -/
inductive Refusal where
  /-- raised by `exec` alone, for an instruction that has no meaning yet; safe. No arm raises it. -/
  | notModelled (mnemonic : String)
deriving DecidableEq, Repr

/-- Reset (70 R260, 10 R27): "every register 0, except `PREV_REF = 1`". The host's list is empty and no response stands on
the port (log entries 1 and 2). -/
def State.reset : State where
  osc := ⟨0, 0⟩
  agc := ⟨0, 0, 0, false⟩
  trg := ⟨0, 0, false, false, false⟩
  pll := ⟨false, false, false, true, 0⟩
  fsm := ⟨.stopped, false, 0, 0, 0, 0, 0, 0⟩
  reg := ⟨0, 0, 0⟩
  out := ⟨0, 0⟩
  run := false
  err := 0
  target := 0
  cfg := ⟨0, 0, 0, 0, 0, 0, 0, 0, 0, 0, 0, 0, 0, 0, 0, 0, 0, 0, 0, 0, 0, 0, 0, 0, 0⟩
  host := []
  rsp := none

end Sys2Proof.Machine
end

