-- ==== Sys2Proof/Machine/Oscillator.lean ====
section
/-! DEFINITION. The fixed-point phase accumulator, `41_oscillator.md`: the unit operations of R100. -/

namespace Sys2Proof.Machine

/-- `osc_advance()` (41 R101). -/
def oscAdvance (o : OscState) : OscState := { o with phase := o.phase + o.freq }

/-- `osc_set_freq(v)`, `v` any integer (41 R102). -/
def oscSetFreq (v : Int) (o : OscState) : OscState :=
  { o with freq := u32 (clamp v 0 Config.freqMax) }

/-- `osc_set_phase(p)`, the instantaneous assignment (41 R103). -/
def oscSetPhase (p : Word) (o : OscState) : OscState := { o with phase := p }

/-- `osc_at_origin()` (41 R104): unsigned `PHASE < FREQ`. -/
def oscAtOrigin (o : OscState) : Bool := decide (o.phase.toNat < o.freq.toNat)

/-- `osc_sync_phase(t)` with `cfg.SYNC_SHIFT` (41 R105). -/
def oscSyncPhase (syncShift : Nat) (t : Word) (o : OscState) : OscState :=
  { o with phase := o.phase + u32 (shr (s32 (t - o.phase)) syncShift) }

/-- `osc_clear()` (41 R108). -/
def oscClear (_ : OscState) : OscState := ⟨0, 0⟩

/-- `WAVE` (41 R106): total, a function of the phase alone, 0 at the origin, within `-ONE .. ONE`, and otherwise
unconstrained, since `Config.waveRaw` is opaque. DESIGN CHOICE of form, log entry 3; safe: every function that
satisfies R106 is this one for some value of `Config.waveRaw`. -/
def wave (p : Word) : Int :=
  if p = 0 then 0 else clamp (s32 (Config.waveRaw p)) (-Config.one) Config.one

/-- `osc_sample()` (41 R106), for a waveform `w`. -/
def oscSample (w : Word → Int) (o : OscState) : Int := w o.phase

/-- `WAVE_TRI`, the spec's reference instance of `WAVE` (41 R107). No meaning uses it; it is for the vectors of
`95_test_vectors.md`. -/
def waveTri (p : Word) : Int :=
  let r : Int := (p.extractLsb' 6 24).toNat
  match p.extractLsb' 30 2 with
  | 0#2 => r
  | 1#2 => Config.one - r
  | 2#2 => -r
  | 3#2 => r - Config.one

end Sys2Proof.Machine
end

