-- ==== Sys2Proof/Machine/Flags.lean ====
section
/-! DEFINITION. The packed status words: `STATUS` (10 R23), `TRG_BITS` and `PLL_BITS` (10 R22). CORE has no arithmetic condition
codes (10 R24); its single-bit state is written by the unit rules alone. -/

namespace Sys2Proof.Machine

/-- The 2-bit encoding of the stage (10 R16). -/
def stageCode : Stage → BitVec 2
  | .stopped => 0
  | .waiting => 1
  | .running => 2
  | .releasing => 3

/-- Bits 7:0 of `STATUS`, computed from the state (10 R23). -/
def statusByte (s : State) : BitVec 8 :=
  BitVec.ofBool (s.err != 0) ++ BitVec.ofBool (oscAtOrigin s.osc) ++ BitVec.ofBool s.fsm.synced
    ++ BitVec.ofBool s.run ++ BitVec.ofBool s.trg.trig ++ BitVec.ofBool s.agc.gate ++ stageCode s.fsm.stage

/-- `STATUS`, index 0x40 (10 R23): bits 31:8 are zero. -/
def statusWord (s : State) : Word := (statusByte s).setWidth 32

/-- `TRG_BITS`, index 0x4A (10 R22). -/
def trgBits (t : TriggerState) : Word :=
  (BitVec.ofBool t.trig ++ BitVec.ofBool t.cmpn ++ BitVec.ofBool t.cmpp).setWidth 32

/-- `PLL_BITS`, index 0x4B (10 R22). -/
def pllBits (p : PllState) : Word :=
  (p.prevErr ++ BitVec.ofBool p.prevRef ++ BitVec.ofBool p.prevSig ++ BitVec.ofBool p.ffRef
    ++ BitVec.ofBool p.ffSig).setWidth 32

end Sys2Proof.Machine
end

