-- ==== Sys2Proof/Machine/Operands.lean ====
section
/-! DEFINITION. The register index space: the map `RDREG` reads (10 R22, 20 R44) and the configuration registers `WRCFG`
writes (10 R21, 47 R216). -/

namespace Sys2Proof.Machine

/-- The configuration register at an index, none above 0x18 (10 R21). -/
def cfgRead (c : ConfigRegs) (i : BitVec 8) : Option Word :=
  match i with
  | 0x00#8 => some c.sps
  | 0x01#8 => some c.latency
  | 0x02#8 => some c.startPhase
  | 0x03#8 => some c.mode
  | 0x04#8 => some c.dcA
  | 0x05#8 => some c.lpALo
  | 0x06#8 => some c.lpAHi
  | 0x07#8 => some c.envAtt
  | 0x08#8 => some c.envRel
  | 0x09#8 => some c.gateLo
  | 0x0A#8 => some c.gateHi
  | 0x0B#8 => some c.agcGmax
  | 0x0C#8 => some c.trigDecay
  | 0x0D#8 => some c.trigSens
  | 0x0E#8 => some c.trigHyst
  | 0x0F#8 => some c.pllShifts
  | 0x10#8 => some c.perA
  | 0x11#8 => some c.outlierN
  | 0x12#8 => some c.syncShift
  | 0x13#8 => some c.pidKp
  | 0x14#8 => some c.pidKi
  | 0x15#8 => some c.pidKd
  | 0x16#8 => some c.pidDt
  | 0x17#8 => some c.pidRate
  | 0x18#8 => some c.maxGain
  | _ => none

/-- The configuration with the register at an index replaced; none above 0x18 (47 R216). -/
def cfgWrite (c : ConfigRegs) (i : BitVec 8) (v : Word) : Option ConfigRegs :=
  match i with
  | 0x00#8 => some { c with sps := v }
  | 0x01#8 => some { c with latency := v }
  | 0x02#8 => some { c with startPhase := v }
  | 0x03#8 => some { c with mode := v }
  | 0x04#8 => some { c with dcA := v }
  | 0x05#8 => some { c with lpALo := v }
  | 0x06#8 => some { c with lpAHi := v }
  | 0x07#8 => some { c with envAtt := v }
  | 0x08#8 => some { c with envRel := v }
  | 0x09#8 => some { c with gateLo := v }
  | 0x0A#8 => some { c with gateHi := v }
  | 0x0B#8 => some { c with agcGmax := v }
  | 0x0C#8 => some { c with trigDecay := v }
  | 0x0D#8 => some { c with trigSens := v }
  | 0x0E#8 => some { c with trigHyst := v }
  | 0x0F#8 => some { c with pllShifts := v }
  | 0x10#8 => some { c with perA := v }
  | 0x11#8 => some { c with outlierN := v }
  | 0x12#8 => some { c with syncShift := v }
  | 0x13#8 => some { c with pidKp := v }
  | 0x14#8 => some { c with pidKi := v }
  | 0x15#8 => some { c with pidKd := v }
  | 0x16#8 => some { c with pidDt := v }
  | 0x17#8 => some { c with pidRate := v }
  | 0x18#8 => some { c with maxGain := v }
  | _ => none

/-- The status and datapath registers, indices 0x40 .. 0x55, and `TARGET` at 0x20 (10 R22). -/
def dataRead (s : State) (i : BitVec 8) : Option Word :=
  match i with
  | 0x20#8 => some s.target
  | 0x40#8 => some (statusWord s)
  | 0x41#8 => some (s.err.setWidth 32)
  | 0x42#8 => some s.fsm.tick
  | 0x43#8 => some s.osc.freq
  | 0x44#8 => some s.osc.phase
  | 0x45#8 => some s.agc.dc
  | 0x46#8 => some s.agc.lp
  | 0x47#8 => some s.agc.env
  | 0x48#8 => some s.trg.php
  | 0x49#8 => some s.trg.phn
  | 0x4A#8 => some (trgBits s.trg)
  | 0x4B#8 => some (pllBits s.pll)
  | 0x4C#8 => some s.fsm.phOfs
  | 0x4D#8 => some s.fsm.lastEdge
  | 0x4E#8 => some s.fsm.periodEst
  | 0x4F#8 => some s.fsm.outlAcc
  | 0x50#8 => some (s.fsm.outlCnt.setWidth 32)
  | 0x51#8 => some s.reg.integ
  | 0x52#8 => some s.reg.perr
  | 0x53#8 => some s.reg.gain
  | 0x54#8 => some s.out.out
  | 0x55#8 => some s.out.synth
  | _ => none

/-- `reg[i]` (10 R22); none where the index is unmapped (20 R44). -/
def regRead (s : State) (i : BitVec 8) : Option Word :=
  match cfgRead s.cfg i with
  | some v => some v
  | none => dataRead s i

end Sys2Proof.Machine
end

