-- ==== Sys2Proof/Machine/Ops.lean ====
section
/-! DEFINITION. What the commands share: the response (30 R58), taking an error (60 R236, the machine's one exception, which has no
return: 60 R241), the mode checks (60 R243), reset (70 R260) and the port (30 R56). -/

namespace Sys2Proof.Machine

/-- The command errors (60 R237). -/
inductive ErrCode where
  /-- `ERR_OPCODE` -/
  | opcode
  /-- `ERR_FIELD` -/
  | field
  /-- `ERR_INDEX` -/
  | index
  /-- `ERR_LOCKED` -/
  | locked
  /-- `ERR_NOTRUN` -/
  | notRun
  /-- `ERR_CONFIG` -/
  | config
deriving DecidableEq, Repr

/-- The 4-bit codes (60 R237). -/
def errCode : ErrCode → BitVec 4
  | .opcode => 1
  | .field => 2
  | .index => 3
  | .locked => 4
  | .notRun => 5
  | .config => 6

/-- The response port driven at the end of a command: `rsp_status` is computed from the state after the command
(30 R58). -/
def respond (err : BitVec 4) (data : Word) (s : State) : State :=
  { s with rsp := some ⟨err, data, statusByte s⟩ }

/-- A command that succeeds with result `data` (30 R58). -/
def succeed (data : Word) (s : State) : Host.Outcome State Fault Refusal := .next (respond 0 data s)

/-- The sticky write of `ERR`: the first error since reset is kept (60 R236). -/
def recordError (e : ErrCode) (s : State) : State := if s.err = 0 then { s with err := errCode e } else s

/-- `raise E(info)` (60 R236): nothing changes but `ERR`, and the response is given. -/
def raiseError (e : ErrCode) (info : Word) (s : State) : Host.Outcome State Fault Refusal :=
  .next (respond (errCode e) info (recordError e s))

/-- A command that needs RUN mode (30 R60 check 3, 60 R243). -/
def needRun (s : State) (k : Host.Outcome State Fault Refusal) : Host.Outcome State Fault Refusal :=
  if s.run then k else raiseError .notRun 0 s

/-- A command that needs CONFIG mode (30 R60 check 3, 60 R243). -/
def needConfig (s : State) (k : Host.Outcome State Fault Refusal) : Host.Outcome State Fault Refusal :=
  if s.run then raiseError .locked 0 s else k

/-- Reset loads every register with its reset value (70 R260). What the host goes on to present is not CORE's state and
stays (log entry 1). -/
def loadReset (s : State) : State := { State.reset with host := s.host }

/-- The error a rejected word raises (30 R60 checks 1 and 2). -/
def rejectWord (e : DecodeError) (s : State) : Host.Outcome State Fault Refusal :=
  match e with
  | .opcode => raiseError .opcode 0 s
  | .field => raiseError .field 0 s

/-- The `rst` port at 1: the reset state is loaded and no response is given; a command in progress is abandoned, which a model
treats "as reset in place of that command" (30 R56, 70 R260, 93 V8). -/
def portReset (s : State) : State := loadReset s

/-- Nothing is presented: CORE "holds its state unchanged" (60 R248) and the response port falls silent, since `rsp_valid`
is 1 for one cycle per command (30 R56; log entry 2). -/
def idle (s : State) : State := { s with rsp := none }

/-- The host's next event and the state with it taken off the list (20 R46; log entry 1). -/
def takeEvent (s : State) : Option (HostEvent × State) :=
  match s.host with
  | [] => none
  | e :: rest => some (e, { s with host := rest })

/-- The host presents a word as the next command (30 R56). -/
def presentWord (w : Command) (s : State) : State := { s with host := .command w :: s.host }

end Sys2Proof.Machine
end

