-- ==== Sys2Proof/Machine/HostCommands.lean ====
section
/-! DEFINITION. The meanings of NOP, WRCFG, RDREG, START and RESET, `47_host_commands.md`. -/

namespace Sys2Proof.Machine

/-- `NOP` (47 R215). -/
def execNop (s : State) : Host.Outcome State Fault Refusal := succeed 0 s

/-- `WRCFG i, v` (47 R216): mode check, then index check, then the write. -/
def execWrcfg (i : BitVec 8) (v : Word) (s : State) : Host.Outcome State Fault Refusal :=
  needConfig s
    (match cfgWrite s.cfg i v with
     | some c => succeed 0 { s with cfg := c }
     | none => raiseError .index 0 s)

/-- `RDREG i` (47 R217). -/
def execRdreg (i : BitVec 8) (s : State) : Host.Outcome State Fault Refusal :=
  match regRead s i with
  | some v => succeed v s
  | none => raiseError .index 0 s

/-- A coefficient outside `0 .. ONE` as signed (47 R226 check 3). -/
def badCoeff (w : Word) : Bool := decide (s32 w < 0) || decide (Config.one < s32 w)

/-- Check 3 of 47 R226. -/
def anyBadCoeff (c : ConfigRegs) : Bool :=
  badCoeff c.dcA || badCoeff c.lpALo || badCoeff c.lpAHi || badCoeff c.envAtt || badCoeff c.envRel
    || badCoeff c.trigDecay || badCoeff c.trigSens || badCoeff c.perA

/-- The thirteen checks of 47 R226, bit 0 first; true where the check fails. -/
def failedChecks (c : ConfigRegs) : List Bool := [
  c.sps == 0,
  c.latency == 0,
  c.mode.extractLsb' 1 31 != 0,
  anyBadCoeff c,
  decide (s32 c.lpALo > s32 c.lpAHi),
  !(decide (1 ≤ s32 c.gateLo) && decide (s32 c.gateLo ≤ s32 c.gateHi)),
  decide (s32 c.agcGmax < 1),
  decide (s32 c.trigHyst < 0),
  c.pllShifts.extractLsb' 5 3 != 0 || c.pllShifts.extractLsb' 13 19 != 0,
  c.outlierN == 0 || decide (255 < c.outlierN.toNat),
  decide (31 < c.syncShift.toNat),
  decide (s32 c.pidDt ≤ 0) || c.pidRate == 0 || decide (65535 < c.pidRate.toNat),
  decide (s32 c.maxGain < 0)]

/-- The number whose bit `k` is the list's entry `k`. -/
def bitmapOf : List Bool → Nat
  | [] => 0
  | b :: bs => b.toNat + 2 * bitmapOf bs

/-- `bad`, the bitmap of failed checks (47 R226). -/
def badConfig (c : ConfigRegs) : Word := BitVec.ofNat 32 (bitmapOf (failedChecks c))

/-- `START` (47 R218). -/
def execStart (s : State) : Host.Outcome State Fault Refusal :=
  needConfig s
    (if badConfig s.cfg = 0 then succeed 0 { s with run := true }
     else raiseError .config (badConfig s.cfg) s)

/-- `RESET` (47 R227). -/
def execReset (s : State) : Host.Outcome State Fault Refusal := succeed 0 (loadReset s)

end Sys2Proof.Machine
end

