-- ==== Sys2Proof/Machine/Regulator.lean ====
section
/-! DEFINITION. The Level Regulator and the meanings of REGULATE, RGINIT and SETTGT, `46_level_regulator.md`. -/

namespace Sys2Proof.Machine

/-- The error `e` (46 R202). -/
def levelError (s : State) : Int := subq (s32 s.target) (s32 s.agc.env)

/-- The proportional term (46 R203). -/
def propTerm (c : ConfigRegs) (e : Int) : Int := mulq (s32 c.pidKp) e

/-- The integrator after its update (46 R204). -/
def integNext (c : ConfigRegs) (integ e : Int) : Int := addq integ (mulq e (s32 c.pidDt))

/-- The integral term, from the updated integrator (46 R204). -/
def integTerm (c : ConfigRegs) (integ' : Int) : Int := mulq (s32 c.pidKi) integ'

/-- The derivative term; `PID_RATE` is read unsigned (46 R205). -/
def derivTerm (c : ConfigRegs) (e perr : Int) : Int :=
  sat (mulq (s32 c.pidKd) (subq e perr) * (c.pidRate.toNat : Int))

/-- The adjustment (46 R206): saturated after each addition, in this order. -/
def gainAdjust (c : ConfigRegs) (r : LevelState) (e : Int) : Int :=
  addq (addq (propTerm c e) (integTerm c (integNext c (s32 r.integ) e))) (derivTerm c e (s32 r.perr))

/-- The regulator state after one `REGULATE` (46 R207, R208): exact sum, then clamp, for the gain. -/
def levelStep (c : ConfigRegs) (r : LevelState) (e : Int) : LevelState where
  integ := u32 (integNext c (s32 r.integ) e)
  perr := u32 e
  gain := u32 (clamp (s32 r.gain + gainAdjust c r e) 0 (s32 c.maxGain))

/-- `REGULATE` (46 R201 to R208). -/
def execRegulate (s : State) : Host.Outcome State Fault Refusal :=
  needRun s
    (succeed (u32 (gainAdjust s.cfg s.reg (levelError s)))
      { s with reg := levelStep s.cfg s.reg (levelError s) })

/-- `RGINIT` (46 R209). -/
def execRginit (s : State) : Host.Outcome State Fault Refusal :=
  needRun s (succeed 0 { s with reg := ⟨0, 0, 0⟩ })

/-- `SETTGT v` (46 R210). -/
def execSettgt (v : Word) (s : State) : Host.Outcome State Fault Refusal :=
  succeed 0 { s with target := v }

end Sys2Proof.Machine
end

