-- ==== Sys2Proof/Machine/Conditioner.lean ====
section
/-! DEFINITION. The Signal Conditioner, `42_agc_gate.md`: DC blocker, envelope-adaptive low-pass, envelope follower,
hysteretic noise gate, normalisation. -/

namespace Sys2Proof.Machine

/-- Step 1, the updated offset estimate `dc'` (42 R116). -/
def dcEstimate (c : ConfigRegs) (a : AgcState) (x : Int) : Int := lp1 (s32 a.dc) x (s32 c.dcA)

/-- Step 2a, the adaptive coefficient, from the envelope the previous sample left (42 R117). -/
def adaptiveCoeff (c : ConfigRegs) (a : AgcState) : Int :=
  addq (s32 c.lpALo) (mulq (min (s32 a.env) Config.one) (subq (s32 c.lpAHi) (s32 c.lpALo)))

/-- Step 2b, the conditioned sample `lp'` (42 R118). -/
def conditioned (c : ConfigRegs) (a : AgcState) (x : Int) : Int :=
  lp1 (s32 a.lp) (subq x (dcEstimate c a x)) (adaptiveCoeff c a)

/-- Step 3, the envelope follower: one step from envelope `env` for the conditioned sample `lp` (42 R119). -/
def envFollow (c : ConfigRegs) (env lp : Int) : Int :=
  let m := absq lp
  lp1 env m (if m > env then s32 c.envAtt else s32 c.envRel)

/-- Step 4, the hysteretic noise gate, on the envelope of this sample (42 R120). -/
def gateNext (c : ConfigRegs) (env : Int) (gate : Bool) : Bool :=
  if env > s32 c.gateHi then true else if env < s32 c.gateLo then false else gate

/-- Step 5, normalisation (42 R121). -/
def normalise (c : ConfigRegs) (lp env : Int) (gate : Bool) : Int :=
  if gate then mulq lp (min (recipq env) (s32 c.agcGmax)) else 0

/-- `agc(x)` (42 R115, R122): the new conditioner state and the normalised sample. The activity bit and the envelope of the
contract are the new `GATE` and `ENV`. -/
def agcStep (c : ConfigRegs) (a : AgcState) (x : Int) : AgcState × Int :=
  let lp := conditioned c a x
  let env := envFollow c (s32 a.env) lp
  let gate := gateNext c env a.gate
  (⟨u32 (dcEstimate c a x), u32 lp, u32 env, gate⟩, normalise c lp env gate)

end Sys2Proof.Machine
end

