-- ==== Sys2Proof/Machine/Pll.lean ====
section
/-! DEFINITION. The Phase-Locked Oscillator, `44_pll.md`: digital phase detector and proportional-derivative loop filter. -/

namespace Sys2Proof.Machine

/-- The oscillator's two-level reference (44 R151): `1 - u32(PHASE - PH_OFS)[31]`. -/
def refLevel (phase phOfs : Word) : Bool := !(phase - phOfs).getLsbD 31

/-- The latches set on rising edges (44 R152). -/
def latchEdges (p : PllState) (sig ref : Bool) : PllState :=
  { p with
    ffSig := p.ffSig || (sig && !p.prevSig)
    ffRef := p.ffRef || (ref && !p.prevRef)
    prevSig := sig
    prevRef := ref }

/-- Both latches are cleared when both are set (44 R153). -/
def clearBoth (p : PllState) : PllState :=
  if p.ffSig && p.ffRef then { p with ffSig := false, ffRef := false } else p

/-- `err <- FF_REF - FF_SIG` (44 R153). -/
def phaseError (p : PllState) : Int := (p.ffRef.toNat : Int) - (p.ffSig.toNat : Int)

/-- `KP_SHIFT = cfg.PLL_SHIFTS[4:0]` (44 R154). -/
def kpShift (c : ConfigRegs) : Nat := (c.pllShifts.extractLsb' 0 5).toNat

/-- `KPD_SHIFT = cfg.PLL_SHIFTS[12:8]` (44 R154). -/
def kpdShift (c : ConfigRegs) : Nat := (c.pllShifts.extractLsb' 8 5).toNat

/-- The loop filter's `delta` (44 R154). -/
def loopDelta (c : ConfigRegs) (err prevErr : Int) : Int :=
  shl err (kpShift c) + shl (err - prevErr) (kpdShift c)

/-- The phase detector of one sample: latches, then the clear (44 R152, R153). -/
def phaseDetect (p : PllState) (sig ref : Bool) : PllState := clearBoth (latchEdges p sig ref)

/-- `pll(sig)` (44 R150 to R156): the new PLL state and the oscillator with its new frequency. -/
def pllStep (c : ConfigRegs) (p : PllState) (o : OscState) (phOfs : Word) (sig : Bool) : PllState × OscState :=
  let d := phaseDetect p sig (refLevel o.phase phOfs)
  let err := phaseError d
  ({ d with prevErr := BitVec.ofInt 2 err },
   oscSetFreq ((o.freq.toNat : Int) - loopDelta c err p.prevErr.toInt) o)

/-- The PLL state taken at every onset (44 R157, 45 R182). -/
def pllOnset (_ : PllState) : PllState := ⟨false, false, false, true, 0⟩

/-- The period in PLL mode (44 R158); 0 is "not yet measured". -/
def pllPeriod (o : OscState) : Nat := if 0 < o.freq.toNat then 4294967296 / o.freq.toNat else 0

end Sys2Proof.Machine
end

