-- ==== Sys2Proof/Machine/Timing.lean ====
section
/-! DEFINITION. Period measurement in direct mode and latency compensation, `45_sustain_fsm.md` sections 3 and 4. -/

namespace Sys2Proof.Machine

/-- The reading: the interval clamped and brought to UQ16.16 (45 R171). -/
def reading (raw : Nat) : Nat := min raw Config.periodRawMax * 65536

/-- The lower end of the tolerance band (45 R172). -/
def bandLo (est : Nat) : Nat := est * 16777216 / Config.semi

/-- The upper end of the tolerance band (45 R172). -/
def bandHi (est : Nat) : Nat := est * Config.semi / 16777216

/-- `in_band` (45 R172); both ends are inside. -/
def inBand (est m : Nat) : Bool := decide (bandLo est ≤ m) && decide (m ≤ bandHi est)

/-- Seeding the estimate (45 R173). -/
def seedPeriod (m : Nat) (f : FsmState) : FsmState :=
  { f with periodEst := BitVec.ofNat 32 m, outlCnt := 0, outlAcc := 0 }

/-- An in-band reading: one-pole smoothing (45 R174). -/
def smoothPeriod (c : ConfigRegs) (m : Nat) (f : FsmState) : FsmState :=
  let est : Int := f.periodEst.toNat
  { f with periodEst := u32 (est + floor24 (s32 c.perA * ((m : Int) - est))), outlCnt := 0, outlAcc := 0 }

/-- An out-of-band reading: the outlier accumulator, and its adoption (45 R175). The count is compared before it is
narrowed to its 8-bit register; in every reachable state it fits (log entry 5). -/
def outlierPeriod (c : ConfigRegs) (m : Nat) (f : FsmState) : FsmState :=
  let acc := if f.outlCnt = 0 then m else (f.outlAcc.toNat + m) / 2
  let cnt := f.outlCnt.toNat + 1
  if cnt ≥ c.outlierN.toNat then
    { f with periodEst := BitVec.ofNat 32 acc, outlCnt := 0, outlAcc := 0 }
  else
    { f with outlAcc := BitVec.ofNat 32 acc, outlCnt := BitVec.ofNat 8 cnt }

/-- The estimate after a reading `m` (45 R173 to R175). -/
def updatePeriod (c : ConfigRegs) (m : Nat) (f : FsmState) : FsmState :=
  if f.periodEst = 0 then seedPeriod m f
  else if inBand f.periodEst.toNat m then smoothPeriod c m f
  else outlierPeriod c m f

/-- `osc_set_freq(floor(2^48 / PERIOD_EST))` (45 R176). `PERIOD_EST` is positive here in every reachable state
(45 R191; log entry 5). -/
def freqOfPeriod (f : FsmState) (o : OscState) : OscState :=
  oscSetFreq ((281474976710656 / f.periodEst.toNat : Nat) : Int) o

/-- `measure(raw)` (45 R171 to R176). -/
def measurePeriod (c : ConfigRegs) (raw : Nat) (f : FsmState) (o : OscState) : FsmState × OscState :=
  let f' := updatePeriod c (reading raw) f
  (f', freqOfPeriod f' o)

/-- `raw <- u32(TICK - LAST_EDGE)` (45 R170). -/
def edgeInterval (f : FsmState) : Nat := (f.tick - f.lastEdge).toNat

/-- `direct_timing(edge)` (45 R170); `TICK` is the value before this sample's increment. -/
def directTiming (c : ConfigRegs) (f : FsmState) (o : OscState) (edge : Bool) : FsmState × OscState :=
  if edge && f.tick != 0 then
    let r := if f.lastEdge != 0 && decide (0 < edgeInterval f) then measurePeriod c (edgeInterval f) f o else (f, o)
    ({ r.1 with lastEdge := f.tick }, r.2)
  else (f, o)

/-- The period in direct mode, rounded to the nearest sample (45 R177). -/
def directPeriod (f : FsmState) : Nat := (f.periodEst.toNat + 32768) / 65536

/-- The delay (45 R178). -/
def delaySamples (c : ConfigRegs) (period : Nat) : Nat := period - c.latency.toNat % period

/-- The target phase (45 R179): exact product, then wrap. -/
def targetPhase (c : ConfigRegs) (o : OscState) (period : Nat) : Word :=
  u32 ((c.startPhase.toNat : Int) - (delaySamples c period : Int) * (o.freq.toNat : Int))

/-- `compensate(period)` (45 R179, R180): sets the phase at the first edge with a period, nudges it afterwards, and keeps the
target in `PH_OFS`. -/
def compensate (c : ConfigRegs) (period : Nat) (f : FsmState) (o : OscState) : FsmState × OscState :=
  let target := targetPhase c o period
  ({ f with synced := true, phOfs := target },
   if f.synced then oscSyncPhase c.syncShift.toNat target o else oscSetPhase target o)

end Sys2Proof.Machine
end

