-- ==== Sys2Proof/Machine/Trigger.lean ====
section
/-! DEFINITION. The Cycle Trigger, `43_cycle_trigger.md`: two peak detectors and the two-level output. -/

namespace Sys2Proof.Machine

/-- The decaying peak hold of one detector (43 R136). -/
def peakHold (c : ConfigRegs) (x ph : Int) : Int :=
  max (max x (subq ph (mulq (s32 c.trigDecay) ph))) 0

/-- The hysteretic comparator of one detector, against the updated hold `ph` (43 R137, R138). -/
def peakCompare (c : ConfigRegs) (x ph : Int) (cmp : Bool) : Bool :=
  let thr := mulq (s32 c.trigSens) ph
  if x > addq thr (s32 c.trigHyst) then true
  else if x < subq thr (s32 c.trigHyst) then false
  else cmp

/-- `peak(x, PH, CMP)`: the new hold and the new comparator bit (43 R136 to R138). -/
def peak (c : ConfigRegs) (x ph : Int) (cmp : Bool) : Int × Bool :=
  (peakHold c x ph, peakCompare c x (peakHold c x ph) cmp)

/-- The output state (43 R140); a reason for -1 wins over a positive pulse. -/
def trigNext (act cmpp cmpn trig : Bool) : Bool :=
  if !act || cmpn then false else if cmpp then true else trig

/-- `trigger(s, act)` (43 R135, R139 to R141): the new trigger state, and whether this sample is a rising edge. -/
def triggerStep (c : ConfigRegs) (t : TriggerState) (s : Int) (act : Bool) : TriggerState × Bool :=
  let p := peak c s (s32 t.php) t.cmpp
  let n := peak c (negq s) (s32 t.phn) t.cmpn
  let trig := trigNext act p.2 n.2 t.trig
  (⟨u32 p.1, u32 n.1, p.2, n.2, trig⟩, trig && !t.trig)

end Sys2Proof.Machine
end

