-- ==== Sys2Proof/Machine/Sustain.lean ====
section
/-! DEFINITION. The Sustain State Machine and the meaning of SAMPLE, `45_sustain_fsm.md`. Each operation that reads the waveform
takes it as an argument (00 R4: "A model takes `WAVE` as an argument"); `execSample` supplies `wave`. -/

namespace Sys2Proof.Machine

/-- `emit(synth)` (45 R190, 46 R212), without the response. -/
def emit (synth : Int) (s : State) : State :=
  { s with
    out := ⟨u32 synth, u32 (mulq (s32 s.reg.gain) synth)⟩
    fsm := { s.fsm with tick := s.fsm.tick + 1 } }

/-- `enter_stopped()` (45 R181). -/
def enterStopped (s : State) : State :=
  { s with
    osc := oscClear s.osc
    fsm := { s.fsm with
      stage := .stopped, synced := false, lastEdge := 0, periodEst := 0, outlAcc := 0, outlCnt := 0, phOfs := 0 } }

/-- `onset()` (45 R182). -/
def onset (s : State) : State := { s with pll := pllOnset s.pll }

/-- `cfg.MODE[0]`: true is direct mode, false PLL mode (45 R192). -/
def directMode (c : ConfigRegs) : Bool := c.mode.getLsbD 0

/-- The tracking of one sample in the selected variant (45 R166 step 3 or 4): `pll(trig)` or `direct_timing(edge)`. -/
def trackVariant (edge : Bool) (s : State) : State :=
  if directMode s.cfg then
    let r := directTiming s.cfg s.fsm s.osc edge
    { s with fsm := r.1, osc := r.2 }
  else
    let r := pllStep s.cfg s.pll s.osc s.fsm.phOfs s.trg.trig
    { s with pll := r.1, osc := r.2 }

/-- The period the compensation uses, after this sample's tracking (44 R158, 45 R177). -/
def trackedPeriod (s : State) : Nat :=
  if directMode s.cfg then directPeriod s.fsm else pllPeriod s.osc

/-- `if edge = 1 and period > 0: compensate(period)` (45 R166 step 5). -/
def compensateAt (edge : Bool) (s : State) : State :=
  if edge && decide (0 < trackedPeriod s) then
    let r := compensate s.cfg (trackedPeriod s) s.fsm s.osc
    { s with fsm := r.1, osc := r.2 }
  else s

/-- Tracking and compensation, made while the stage is Waiting or Running with `act = 1` (45 R166, R169). -/
def track (edge : Bool) (s : State) : State := compensateAt edge (trackVariant edge s)

/-- The end of a sample that does not end in Stopped, with `st` the stage after its transitions: the stage is written, the
waveform taken before the advance in Running and Releasing and 0 in Waiting, the oscillator advanced, the sample emitted
(45 R166 last lines, R188 to R190). -/
def finish (w : Word → Int) (st : Stage) (s : State) : State :=
  let synth : Int := match st with
    | .running => oscSample w s.osc
    | .releasing => oscSample w s.osc
    | .stopped => 0
    | .waiting => 0
  emit synth { s with osc := oscAdvance s.osc, fsm := { s.fsm with stage := st } }

/-- Where a sample stands after the first block of 45 R166. -/
inductive Flow where
  /-- the sample is over (`done`) -/
  | done (s : State)
  /-- it goes on, with the local stage `st` and the local mark `entered` -/
  | go (st : Stage) (entered : Bool) (s : State)

/-- The first block of 45 R166: what the activity bit does to the stage (45 R168, R182, R183, R184, R187). -/
def sampleEntry (act : Bool) (s : State) : Flow :=
  match s.fsm.stage with
  | .stopped => if act then .go .waiting false (onset s) else .done (emit 0 s)
  | .waiting => if act then .go .waiting false s else .done (emit 0 (enterStopped s))
  | .running => if act then .go .running false s else .go .releasing true s
  | .releasing => .go .releasing false s

/-- The second block of 45 R166: tracking in Waiting and Running alone. -/
def sampleTrack (st : Stage) (edge : Bool) (s : State) : State :=
  match st with
  | .waiting => track edge s
  | .running => track edge s
  | .stopped => s
  | .releasing => s

/-- The last block of 45 R166: the origin tests (45 R185, R186), then the output and the advance. -/
def sampleExit (w : Word → Int) (st : Stage) (entered : Bool) (s : State) : State :=
  let org := oscAtOrigin s.osc
  if st == .waiting && s.fsm.synced && org then finish w .running s
  else if st == .releasing && !entered && (org || s.osc.freq == 0) then emit 0 (enterStopped s)
  else finish w st s

/-- The conditioner and the trigger of one sample, run in every stage (42 R122, 43 R142, 45 R166 steps 1 and 3): the state
they leave, and the edge. -/
def frontEnd (x : Int) (s : State) : State × Bool :=
  let a := agcStep s.cfg s.agc x
  let t := triggerStep s.cfg s.trg a.2 a.1.gate
  ({ s with agc := a.1, trg := t.1 }, t.2)

/-- One `SAMPLE`, less its response: the sequence of 45 R166, for a waveform `w`. -/
def sampleState (w : Word → Int) (x : Word) (s : State) : State :=
  let f := frontEnd (s32 x) s
  match sampleEntry f.1.agc.gate f.1 with
  | .done t => t
  | .go st entered s' => sampleExit w st entered (sampleTrack st f.2 s')

/-- `SAMPLE x` for a waveform `w` (45 R165, R190): needs RUN mode and answers `OUT`. -/
def execSampleWith (w : Word → Int) (x : Word) (s : State) : Host.Outcome State Fault Refusal :=
  needRun s (succeed (sampleState w x s).out.out (sampleState w x s))

/-- `SAMPLE x` (45 R165), with the hardware's waveform. -/
def execSample (x : Word) (s : State) : Host.Outcome State Fault Refusal := execSampleWith wave x s

end Sys2Proof.Machine
end

