-- ==== Sys2Proof/Machine/Dispatch.lean ====
section
/-! DEFINITION. `exec`: one arm per command. -/

namespace Sys2Proof.Machine

/-- The effect of one command (30 R60 checks 3 to 5). -/
def exec (i : Instr) (s : State) : Host.Outcome State Fault Refusal :=
  match i with
  | .nop => Sys2Proof.Machine.execNop s
  | .sample x => Sys2Proof.Machine.execSample x s
  | .regulate => Sys2Proof.Machine.execRegulate s
  | .settgt v => Sys2Proof.Machine.execSettgt v s
  | .wrcfg k v => Sys2Proof.Machine.execWrcfg k v s
  | .rdreg k => Sys2Proof.Machine.execRdreg k s
  | .start => Sys2Proof.Machine.execStart s
  | .rginit => Sys2Proof.Machine.execRginit s
  | .reset => Sys2Proof.Machine.execReset s

end Sys2Proof.Machine
end

