-- ==== Sys2Proof/Machine/Step.lean ====
section
/-! DEFINITION. One step of the machine: the next event the host presents (20 R46, 30 R56). -/

namespace Sys2Proof.Machine

/-- One step. A command word is decoded and run (30 R60); `rst` loads the reset state; with nothing presented CORE waits
(70 R261, 60 R248; log entries 1 and 2). -/
def step (s : State) : Host.Outcome State Fault Refusal :=
  match takeEvent s with
  | none => .next (idle s)
  | some (.rst, s') => .next (portReset s')
  | some (.command w, s') =>
    match decode w with
    | .command i => exec i s'
    | .illegal e => rejectWord e s'

/-- `s` with the table's word presented as the next command. -/
def State.withFetchWord (s : State) (nbits w : Nat) : State :=
  presentWord (BitVec.ofNat 48 (w % 2 ^ nbits)) s

end Sys2Proof.Machine
end

