-- ==== Sys2Proof/Machine/Assembler.lean ====
section
/-! DEFINITION. The text form of a command stream, one command per line (30 R64), and the three pseudo-commands (30 R65).
CORE itself never sees text; `encode` gives the command word of what a line says. What the grammar of 30 R64 does not fix is
log entry 7. -/

namespace Sys2Proof.Machine

/-- What one line says. -/
inductive AsmLine where
  /-- no command: an empty line or a comment -/
  | blank
  /-- one command -/
  | command (i : Instr)
  /-- not a line of the grammar -/
  | malformed
deriving DecidableEq, Repr

/-- Spaces and tabs separate words (log entry 7). -/
def isBlank (c : Char) : Bool := c == ' ' || c == '\t'

/-- A text without the blanks around it. -/
def trimText (t : List Char) : List Char := ((t.dropWhile isBlank).reverse.dropWhile isBlank).reverse

/-- The value of a digit in a base up to 16; letters of either case (log entry 7). -/
def digitValue (base : Nat) (c : Char) : Option Nat :=
  let n := c.toNat
  let v :=
    if 48 ≤ n ∧ n ≤ 57 then n - 48
    else if 65 ≤ n ∧ n ≤ 70 then n - 55
    else if 97 ≤ n ∧ n ≤ 102 then n - 87
    else 99
  if v < base then some v else none

/-- Digits after the value `acc` read so far. -/
def readDigits (base acc : Nat) : List Char → Option Nat
  | [] => some acc
  | c :: cs =>
    match digitValue base c with
    | some d => readDigits base (acc * base + d) cs
    | none => none

/-- One or more digits. -/
def readNat (base : Nat) : List Char → Option Nat
  | [] => none
  | c :: cs => readDigits base 0 (c :: cs)

/-- A leading minus sign, and the rest. -/
def readSign : List Char → Bool × List Char
  | '-' :: cs => (true, cs)
  | cs => (false, cs)

/-- `number`: decimal or `0x` hexadecimal, a leading `-` allowed (30 R64), before its reduction modulo 2^32. -/
def readNumber (t : List Char) : Option Int :=
  let mag := match (readSign t).2 with
    | '0' :: 'x' :: cs => readNat 16 cs
    | cs => readNat 10 cs
  mag.map (fun n => if (readSign t).1 then -(n : Int) else (n : Int))

/-- `q(r)` for `r = ± num / den`, `den > 0`: `r * 2^24` rounded to the nearest integer, ties away from zero, which must lie in
`QMIN .. QMAX` (30 R64). -/
def qWord (neg : Bool) (num den : Nat) : Option Word :=
  let mag : Int := ((2 * 16777216 * num + den) / (2 * den) : Nat)
  let v := if neg then -mag else mag
  if Config.qMin ≤ v ∧ v ≤ Config.qMax then some (u32 v) else none

/-- The decimal of `q( )`: digits, with an optional fraction (log entry 7). -/
def readDecimal (t : List Char) : Option Word :=
  let sg := readSign t
  let ip := sg.2.takeWhile (· != '.')
  match sg.2.dropWhile (· != '.') with
  | [] => (readNat 10 ip).bind (fun n => qWord sg.1 n 1)
  | _ :: fp =>
    (readNat 10 ip).bind (fun n => (readNat 10 fp).bind (fun f =>
      qWord sg.1 (n * 10 ^ fp.length + f) (10 ^ fp.length)))

/-- `value := number | 'q(' decimal ')'` (30 R64); a number is reduced modulo 2^32. -/
def readValue (t : List Char) : Option Word :=
  match t with
  | 'q' :: '(' :: cs =>
    match cs.reverse with
    | ')' :: r => readDecimal (trimText r.reverse)
    | _ => none
  | _ => (readNumber t).map u32

/-- The register names of 10 R21 and R22, with their indices. -/
def registerNames : List (String × BitVec 8) := [
  ("CFG_SPS", 0x00), ("CFG_LATENCY", 0x01), ("CFG_START_PHASE", 0x02), ("CFG_MODE", 0x03),
  ("CFG_DC_A", 0x04), ("CFG_LP_A_LO", 0x05), ("CFG_LP_A_HI", 0x06), ("CFG_ENV_ATT", 0x07),
  ("CFG_ENV_REL", 0x08), ("CFG_GATE_LO", 0x09), ("CFG_GATE_HI", 0x0A), ("CFG_AGC_GMAX", 0x0B),
  ("CFG_TRIG_DECAY", 0x0C), ("CFG_TRIG_SENS", 0x0D), ("CFG_TRIG_HYST", 0x0E), ("CFG_PLL_SHIFTS", 0x0F),
  ("CFG_PER_A", 0x10), ("CFG_OUTLIER_N", 0x11), ("CFG_SYNC_SHIFT", 0x12), ("CFG_PID_KP", 0x13),
  ("CFG_PID_KI", 0x14), ("CFG_PID_KD", 0x15), ("CFG_PID_DT", 0x16), ("CFG_PID_RATE", 0x17),
  ("CFG_MAX_GAIN", 0x18), ("TARGET", 0x20), ("STATUS", 0x40), ("ERR", 0x41), ("TICK", 0x42),
  ("FREQ", 0x43), ("PHASE", 0x44), ("DC", 0x45), ("LP", 0x46), ("ENV", 0x47), ("PHP", 0x48),
  ("PHN", 0x49), ("TRG_BITS", 0x4A), ("PLL_BITS", 0x4B), ("PH_OFS", 0x4C), ("LAST_EDGE", 0x4D),
  ("PERIOD_EST", 0x4E), ("OUTL_ACC", 0x4F), ("OUTL_CNT", 0x50), ("REG_INT", 0x51), ("REG_PERR", 0x52),
  ("GAIN", 0x53), ("OUT", 0x54), ("SYNTH", 0x55)]

/-- `index := number | register-name` (30 R64). A number that is not 0 .. 255 after its reduction modulo 2^32 is no index (log
entry 7). -/
def readIndex (t : List Char) : Option (BitVec 8) :=
  match registerNames.find? (fun p => p.1.toList == t) with
  | some p => some p.2
  | none => (readNumber t).bind (fun n =>
      if (u32 n).toNat ≤ 255 then some (BitVec.ofNat 8 (u32 n).toNat) else none)

/-- A command with no operand. -/
def bare (i : Instr) (operands : List Char) : Option Instr := if operands.isEmpty then some i else none

/-- `WRCFG index ',' value`. -/
def readWrcfg (operands : List Char) : Option Instr :=
  match operands.dropWhile (· != ',') with
  | _ :: v =>
    (readIndex (trimText (operands.takeWhile (· != ',')))).bind (fun i =>
      (readValue (trimText v)).map (fun x => .wrcfg i x))
  | [] => none

/-- A command from its mnemonic and the text of its operands (30 R64, R65). -/
def readCommand (mnemonic operands : List Char) : Option Instr :=
  if mnemonic == "NOP".toList then bare .nop operands
  else if mnemonic == "REGULATE".toList then bare .regulate operands
  else if mnemonic == "START".toList then bare .start operands
  else if mnemonic == "RGINIT".toList then bare .rginit operands
  else if mnemonic == "RESET".toList then bare .reset operands
  else if mnemonic == "RDSTAT".toList then bare (.rdreg 0x40) operands
  else if mnemonic == "RDOUT".toList then bare (.rdreg 0x54) operands
  else if mnemonic == "RDENV".toList then bare (.rdreg 0x47) operands
  else if mnemonic == "SAMPLE".toList then (readValue operands).map .sample
  else if mnemonic == "SETTGT".toList then (readValue operands).map .settgt
  else if mnemonic == "RDREG".toList then (readIndex operands).map .rdreg
  else if mnemonic == "WRCFG".toList then readWrcfg operands
  else none

/-- `line := [command] [';' comment]` (30 R64). -/
def assembleLine (line : List Char) : AsmLine :=
  let t := trimText (line.takeWhile (· != ';'))
  if t.isEmpty then .blank
  else
    match readCommand (t.takeWhile (fun c => !isBlank c)) (trimText (t.dropWhile (fun c => !isBlank c))) with
    | some i => .command i
    | none => .malformed

end Sys2Proof.Machine
end

