-- ==== Sys2Proof/Safety.lean ====
section
/-! DEFINITION. What the statements call a legal configuration (10 R21), a sound state (10 R28) and the invariant that carries
it, and a run of the host's commands from reset. -/

namespace Sys2Proof.Machine

/-- A coefficient in `0 .. ONE`, read signed (10 R21). -/
def LegalCoeff (w : Word) : Prop := 0 ≤ s32 w ∧ s32 w ≤ 16777216

/-- Every configuration register in its legal range, the table of 10 R21 row by row. -/
structure LegalConfig (c : ConfigRegs) : Prop where
  sps : c.sps ≠ 0
  latency : c.latency ≠ 0
  mode : c.mode.toNat < 2
  dcA : LegalCoeff c.dcA
  lpALo : LegalCoeff c.lpALo
  lpAHi : LegalCoeff c.lpAHi
  lpOrder : s32 c.lpALo ≤ s32 c.lpAHi
  envAtt : LegalCoeff c.envAtt
  envRel : LegalCoeff c.envRel
  gateLo : 1 ≤ s32 c.gateLo
  gateOrder : s32 c.gateLo ≤ s32 c.gateHi
  agcGmax : 1 ≤ s32 c.agcGmax
  trigDecay : LegalCoeff c.trigDecay
  trigSens : LegalCoeff c.trigSens
  trigHyst : 0 ≤ s32 c.trigHyst
  pllShifts : c.pllShifts &&& 0xFFFFE0E0#32 = 0
  perA : LegalCoeff c.perA
  outlierN : 1 ≤ c.outlierN.toNat ∧ c.outlierN.toNat ≤ 255
  syncShift : c.syncShift.toNat ≤ 31
  pidDt : 1 ≤ s32 c.pidDt
  pidRate : 1 ≤ c.pidRate.toNat ∧ c.pidRate.toNat ≤ 65535
  maxGain : 0 ≤ s32 c.maxGain

/-- The list of 10 R28, in its order: what holds in RUN mode after every command. -/
structure Sound (s : State) : Prop where
  freqRange : s.osc.freq.toNat ≤ 2147483648
  envNonneg : 0 ≤ s32 s.agc.env
  phpNonneg : 0 ≤ s32 s.trg.php
  phnNonneg : 0 ≤ s32 s.trg.phn
  latchesApart : ¬(s.pll.ffSig = true ∧ s.pll.ffRef = true)
  prevErr : s.pll.prevErr.toInt = -1 ∨ s.pll.prevErr.toInt = 0 ∨ s.pll.prevErr.toInt = 1
  gainRange : 0 ≤ s32 s.reg.gain ∧ s32 s.reg.gain ≤ s32 s.cfg.maxGain
  periodRange : s.fsm.periodEst = 0 ∨ 65536 ≤ s.fsm.periodEst.toNat
  stoppedClear : s.fsm.stage = .stopped → s.osc.freq = 0 ∧ s.osc.phase = 0 ∧ s.fsm.synced = false ∧
    s.fsm.lastEdge = 0 ∧ s.fsm.periodEst = 0 ∧ s.fsm.outlCnt = 0
  gateEnv : s.agc.gate = true → s32 s.cfg.gateLo ≤ s32 s.agc.env ∧ 1 ≤ s32 s.cfg.gateLo

/-- The outlier accumulator's side of the invariant (45 R175: the count "never exceeds `OUTLIER_N - 1`"; an accumulator in use
holds readings, each at least 2^16 by 45 R171). -/
structure OutliersSound (s : State) : Prop where
  count : s.fsm.outlCnt.toNat < s.cfg.outlierN.toNat
  accumulator : s.fsm.outlCnt ≠ 0 → 65536 ≤ s.fsm.outlAcc.toNat

/-- The datapath registers (10 R11 to R18) stand at their reset values. -/
def DatapathAtReset (s : State) : Prop :=
  s.osc = State.reset.osc ∧ s.agc = State.reset.agc ∧ s.trg = State.reset.trg ∧ s.pll = State.reset.pll ∧
    s.fsm = State.reset.fsm ∧ s.reg = State.reset.reg ∧ s.out = State.reset.out

/-- The invariant of the machine: in CONFIG mode the datapath stands at reset (60 R243, R244); in RUN mode the configuration is
legal (10 R21) and the state sound (10 R28); `ERR` holds a code of 60 R237. -/
structure Invariant (s : State) : Prop where
  errCode : s.err.toNat ≤ 6
  configMode : s.run = false → DatapathAtReset s
  runMode : s.run = true → LegalConfig s.cfg ∧ Sound s ∧ OutliersSound s

/-- `s` after a command that succeeds with result `data` (30 R58): only the response port is written. -/
def answered (data : Word) (s : State) : State := { s with rsp := some ⟨0, data, statusByte s⟩ }

/-- `s` after a command error (60 R236): `ERR` takes the code if it holds none, the response is given, nothing else
changes. -/
def afterError (code : BitVec 4) (data : Word) (s : State) : State :=
  { s with
    err := if s.err = 0 then code else s.err
    rsp := some ⟨code, data, statusByte { s with err := if s.err = 0 then code else s.err }⟩ }

/-- CORE right after reset, with what the host will present. Every command stream is such a list (20 R46). -/
def afterReset (events : List HostEvent) : State := { State.reset with host := events }

/-- `t` is reached by `n` steps from reset, for some host. -/
def ReachedFromReset (events : List HostEvent) (n : Nat) (t : State) : Prop :=
  Sys2Proof.core.run n (afterReset events) = .next t

end Sys2Proof.Machine
end

