-- ==== Sys2Proof/WellFormed.lean ====
section
/-! DEFINITION. Well-formedness, stated apart from the decoder, as the opcode map of 30 R59 states it: a command word is
well formed when some row's `word & mask = match` holds. Every index 0x00 .. 0xFF and every data word is well formed as an
operand (20 R43, 45 R165, 46 R210, 47 R216), and the field types of `Instr` say just that. -/

namespace Sys2Proof

/-- One row of the opcode map, 30 R59. -/
structure OpcodeRow where
  mnemonic : String
  pattern : Command
  mask : Command
deriving DecidableEq, Repr

/-- The nine rows of 30 R59, in its order. -/
def opcodeRows : List OpcodeRow := [
  ⟨"NOP", 0x000000000000#48, 0xFFFFFFFFFFFF#48⟩,
  ⟨"SAMPLE", 0x100000000000#48, 0xFFFF00000000#48⟩,
  ⟨"REGULATE", 0x200000000000#48, 0xFFFFFFFFFFFF#48⟩,
  ⟨"SETTGT", 0x300000000000#48, 0xFFFF00000000#48⟩,
  ⟨"WRCFG", 0x400000000000#48, 0xFF0000000000#48⟩,
  ⟨"RDREG", 0x500000000000#48, 0xFF00FFFFFFFF#48⟩,
  ⟨"START", 0x600000000000#48, 0xFFFFFFFFFFFF#48⟩,
  ⟨"RGINIT", 0x700000000000#48, 0xFFFFFFFFFFFF#48⟩,
  ⟨"RESET", 0x800000000000#48, 0xFFFFFFFFFFFF#48⟩]

/-- "a word `w` is the command when `w & mask = match`" (30 R59). -/
def OpcodeRow.covers (r : OpcodeRow) (w : Command) : Bool := w &&& r.mask == r.pattern

/-- The mnemonic of an instruction, as 30 R59 spells it. -/
def Instr.mnemonic : Instr → String
  | .nop => "NOP"
  | .sample _ => "SAMPLE"
  | .regulate => "REGULATE"
  | .settgt _ => "SETTGT"
  | .wrcfg _ _ => "WRCFG"
  | .rdreg _ => "RDREG"
  | .start => "START"
  | .rginit => "RGINIT"
  | .reset => "RESET"

/-- A well-formed command word: some row of the opcode map covers it (30 R59, R61, R62). -/
def wordWellFormed (w : Command) : Bool := opcodeRows.any (·.covers w)

end Sys2Proof
end

