-- ==== Sys2Proof/Certificates/Slice0/Obligations.lean ====
section
/-! DEFINITION. The statements about CORE, for the provers. Each names the rules of spec/ it formalises; `answered` and
`afterError` (Safety) are the two ways a command ends, as record updates. -/

open Sys2Proof Sys2Proof.Machine

/-! ### Encoding -/

/-- Decode and encode agree: every command, with every operand, is read back from its own word (30 R57, R59). -/
def Obligations.DecodeInvertsEncode : Prop :=
  ∀ i : Instr, decode (encode i) = .command i

/-- A command has one word: no bit of it is ignored (30 R59, R62 "Unused fields are never ignored"). -/
def Obligations.EncodeInvertsDecode : Prop :=
  ∀ (w : Command) (i : Instr), decode w = .command i → encode i = w

/-- The decoder accepts exactly the words of the opcode map, each as the command its row names (30 R59). -/
def Obligations.DecodeFollowsOpcodeMap : Prop :=
  ∀ (w : Command) (r : OpcodeRow), r ∈ opcodeRows →
    (r.covers w = true ↔ ∃ i : Instr, decode w = .command i ∧ i.mnemonic = r.mnemonic)

/-- 30 R61: reserved opcodes raise `ERR_OPCODE` whatever the other bits, change nothing but `ERR`, and no word but 0 is a
`NOP`. -/
def Obligations.ReservedOpcodeRaisesErrOpcode : Prop :=
  (∀ (s : State) (w : Command) (rest : List HostEvent), s.host = .command w :: rest →
    9 ≤ w.toNat / 2 ^ 44 → step s = .next (afterError 1 0 { s with host := rest })) ∧
  (∀ w : Command, decode w = .command .nop ↔ w = 0)

/-- 30 R62: a legal opcode with a non-zero bit in a field the command does not use raises `ERR_FIELD`. -/
def Obligations.NonzeroUnusedFieldRaisesErrField : Prop :=
  ∀ (s : State) (w : Command) (rest : List HostEvent), s.host = .command w :: rest →
    w.toNat / 2 ^ 44 ≤ 8 →
    (w.toNat / 2 ^ 40 % 16 ≠ 0 ∨
      (w.toNat / 2 ^ 32 % 256 ≠ 0 ∧ w.toNat / 2 ^ 44 ≠ 4 ∧ w.toNat / 2 ^ 44 ≠ 5) ∨
      (w.toNat % 2 ^ 32 ≠ 0 ∧ w.toNat / 2 ^ 44 ≠ 1 ∧ w.toNat / 2 ^ 44 ≠ 3 ∧ w.toNat / 2 ^ 44 ≠ 4)) →
    step s = .next (afterError 2 0 { s with host := rest })

/-- Words written out from the fields of 30 R57 and the examples of files 46, 47 and 95 read as the commands they are. -/
def Obligations.WrittenOutWordsDecode : Prop :=
  decode 0x000000000000#48 = .command .nop ∧
  decode 0x100000800000#48 = .command (.sample 0x00800000#32) ∧
  decode 0x200000000000#48 = .command .regulate ∧
  decode 0x300000800000#48 = .command (.settgt 0x00800000#32) ∧
  decode 0x400100000040#48 = .command (.wrcfg 0x01#8 0x40#32) ∧
  decode 0x504B00000000#48 = .command (.rdreg 0x4B#8) ∧
  decode 0x600000000000#48 = .command .start ∧
  decode 0x700000000000#48 = .command .rginit ∧
  decode 0x800000000000#48 = .command .reset

/-! ### Steps -/

/-- A step runs the decoded command, on the state with that command taken off the host's list (20 R46, 30 R60). -/
def Obligations.StepRunsDecodedCommand : Prop :=
  ∀ (s : State) (w : Command) (rest : List HostEvent) (i : Instr),
    s.host = .command w :: rest → decode w = .command i → step s = exec i { s with host := rest }

/-- The other two steps: with nothing presented CORE holds its state (60 R248), and the port's `rst` loads the reset state with
no response (70 R260). That the response port falls silent, and that the host's list stays, are the model's choices (log
entries 1 and 2). -/
def Obligations.StepWaitsOrResets : Prop :=
  (∀ s : State, s.host = [] → step s = .next { s with rsp := none }) ∧
  (∀ (s : State) (rest : List HostEvent), s.host = .rst :: rest → step s = .next (afterReset rest))

/-- CORE never halts and never faults: every step answers a next state (70 R271, 60 R235, R248). -/
def Obligations.EveryStepAnswers : Prop :=
  ∀ s : State, ∃ t : State, step s = .next t

/-- 30 R60 and 60 R238: the first check that fails decides the response, in the order opcode, field, mode, index,
configuration. -/
def Obligations.FirstFailedCheckDecides : Prop :=
  ∀ (s : State) (w : Command) (rest : List HostEvent), s.host = .command w :: rest →
    ∃ (t : State) (r : Response), step s = .next t ∧ t.rsp = some r ∧
      r.err =
        (let op := w.toNat / 2 ^ 44
         let rsv := w.toNat / 2 ^ 40 % 16
         let idx := w.toNat / 2 ^ 32 % 256
         let data := w.toNat % 2 ^ 32
         if op > 8 then 1
         else if rsv ≠ 0 ∨ (idx ≠ 0 ∧ op ≠ 4 ∧ op ≠ 5) ∨ (data ≠ 0 ∧ op ≠ 1 ∧ op ≠ 3 ∧ op ≠ 4) then 2
         else if (op = 1 ∨ op = 2 ∨ op = 7) ∧ s.run = false then 5
         else if (op = 4 ∨ op = 6) ∧ s.run = true then 4
         else if op = 4 ∧ idx > 0x18 then 3
         else if op = 5 ∧ ¬(idx ≤ 0x18 ∨ idx = 0x20 ∨ (0x40 ≤ idx ∧ idx ≤ 0x55)) then 3
         else if op = 6 ∧ badConfig s.cfg ≠ 0 then 6
         else 0)

/-- 60 R236: a command that ends in an error changes no register but the sticky `ERR`, which keeps the first code and is cleared
only by reset. -/
def Obligations.ErrorChangesOnlyErr : Prop :=
  (∀ (s t : State) (w : Command) (rest : List HostEvent) (r : Response),
    s.host = .command w :: rest → step s = .next t → t.rsp = some r → r.err ≠ 0 →
    t = afterError r.err r.data { s with host := rest } ∧
    (r.err ≠ 6 → r.data = 0) ∧ (r.err = 6 → r.data = badConfig s.cfg)) ∧
  (∀ s t : State, step s = .next t → s.err ≠ 0 →
    t.err = s.err ∨
    (∃ rest, (s.host = .rst :: rest ∨ s.host = .command 0x800000000000#48 :: rest) ∧ t.err = 0))

/-- 60 R237: the codes answered are 0 to 6, and each stands for its cause, command by command. -/
def Obligations.ErrorCodesNameTheirCause : Prop :=
  ∀ (i : Instr) (s t : State) (r : Response), exec i s = .next t → t.rsp = some r →
    (r.err = 0 ∨ r.err = 3 ∨ r.err = 4 ∨ r.err = 5 ∨ r.err = 6) ∧
    (r.err = 3 ↔
      (∃ k v, i = .wrcfg k v ∧ s.run = false ∧ 0x18 < k.toNat) ∨
      (∃ k, i = .rdreg k ∧ ¬(k.toNat ≤ 0x18 ∨ k.toNat = 0x20 ∨ (0x40 ≤ k.toNat ∧ k.toNat ≤ 0x55)))) ∧
    (r.err = 4 ↔ s.run = true ∧ (i = .start ∨ ∃ k v, i = .wrcfg k v)) ∧
    (r.err = 5 ↔ s.run = false ∧ (i = .regulate ∨ i = .rginit ∨ ∃ x, i = .sample x)) ∧
    (r.err = 6 ↔ s.run = false ∧ i = .start ∧ badConfig s.cfg ≠ 0)

/-- 60 R243: what each mode permits, cell by cell: the five refusals, and for each allowed cell that no mode error is
answered. -/
def Obligations.ModesPermitTheirCommands : Prop :=
  (∀ (s : State) (x : Word), s.run = false → exec (.sample x) s = .next (afterError 5 0 s)) ∧
  (∀ s : State, s.run = false → exec .regulate s = .next (afterError 5 0 s)) ∧
  (∀ s : State, s.run = false → exec .rginit s = .next (afterError 5 0 s)) ∧
  (∀ (s : State) (k : BitVec 8) (v : Word), s.run = true → exec (.wrcfg k v) s = .next (afterError 4 0 s)) ∧
  (∀ s : State, s.run = true → exec .start s = .next (afterError 4 0 s)) ∧
  (∀ (i : Instr) (s t : State) (r : Response), exec i s = .next t → t.rsp = some r →
    (r.err = 4 ∨ r.err = 5) → i ≠ .nop ∧ (∀ k, i ≠ .rdreg k) ∧ (∀ v, i ≠ .settgt v) ∧ i ≠ .reset) ∧
  (∀ (i : Instr) (s t : State) (r : Response), exec i s = .next t → t.rsp = some r → s.run = false →
    (i = .start ∨ ∃ k v, i = .wrcfg k v) → r.err ≠ 4 ∧ r.err ≠ 5) ∧
  (∀ (i : Instr) (s t : State) (r : Response), exec i s = .next t → t.rsp = some r → s.run = true →
    (i = .regulate ∨ i = .rginit ∨ ∃ x, i = .sample x) → r.err ≠ 4 ∧ r.err ≠ 5)

/-- 60 R244: CONFIG to RUN by a successful `START` only; RUN to CONFIG by reset only, which clears every register. -/
def Obligations.OnlyStartAndResetChangeMode : Prop :=
  ∀ s t : State, step s = .next t →
    (s.run = false → t.run = true →
      ∃ rest, s.host = .command 0x600000000000#48 :: rest ∧ LegalConfig s.cfg ∧
        t = answered 0 { s with run := true, host := rest }) ∧
    (s.run = true → t.run = false →
      ∃ rest, (s.host = .rst :: rest ∨ s.host = .command 0x800000000000#48 :: rest) ∧
        { t with rsp := none } = afterReset rest)

/-- After `START` the configuration cannot change until reset (20 R50); in CONFIG mode only `WRCFG` and reset change it. -/
def Obligations.ConfigurationIsFixedInRun : Prop :=
  ∀ s t : State, step s = .next t →
    (s.run = true → t.run = true → t.cfg = s.cfg) ∧
    (t.cfg ≠ s.cfg →
      ∃ w rest, (s.host = .rst :: rest ∨ (s.host = .command w :: rest ∧
        (w.toNat / 2 ^ 44 = 4 ∨ w = 0x800000000000#48))))

/-! ### The host commands -/

/-- 47 R215: `NOP` changes no state and answers 0; any non-zero bit elsewhere in the word makes it `ERR_FIELD`. -/
def Obligations.NopChangesNothing : Prop :=
  (∀ s : State, exec .nop s = .next (answered 0 s)) ∧
  decode 0x000000000000#48 = .command .nop ∧
  (∀ w : Command, w.toNat / 2 ^ 44 = 0 → w ≠ 0 → decode w = .illegal .field)

/-- 47 R216: `WRCFG` stores the word whole in the one register it names; refused in RUN mode; `ERR_INDEX` above 0x18. -/
def Obligations.WrcfgStoresOneRegister : Prop :=
  ∀ (s : State) (k : BitVec 8) (v : Word),
    decode (0x4#4 ++ 0#4 ++ k ++ v) = .command (.wrcfg k v) ∧
    (s.run = true → exec (.wrcfg k v) s = .next (afterError 4 0 s)) ∧
    (s.run = false → 0x18 < k.toNat → exec (.wrcfg k v) s = .next (afterError 3 0 s)) ∧
    (s.run = false → k.toNat ≤ 0x18 →
      ∃ c : ConfigRegs, exec (.wrcfg k v) s = .next (answered 0 { s with cfg := c }) ∧
        cfgRead c k = some v ∧ ∀ j : BitVec 8, j ≠ k → cfgRead c j = cfgRead s.cfg j)

/-- 47 R217: `RDREG` answers the register word of a mapped index and changes no state; `ERR_INDEX` for an unmapped one. -/
def Obligations.RdregAnswersTheRegister : Prop :=
  ∀ (s : State) (k : BitVec 8),
    decode (0x5#4 ++ 0#4 ++ k ++ 0#32) = .command (.rdreg k) ∧
    ((k.toNat ≤ 0x18 ∨ k.toNat = 0x20 ∨ (0x40 ≤ k.toNat ∧ k.toNat ≤ 0x55)) →
      ∃ v : Word, regRead s k = some v ∧ exec (.rdreg k) s = .next (answered v s)) ∧
    (¬(k.toNat ≤ 0x18 ∨ k.toNat = 0x20 ∨ (0x40 ≤ k.toNat ∧ k.toNat ≤ 0x55)) →
      exec (.rdreg k) s = .next (afterError 3 0 s))

/-- 10 R22: the word of every mapped index, the packed ones as sums of their bits. -/
def Obligations.RegisterMapIsTheTable : Prop :=
  ∀ s : State,
    (∀ k : BitVec 8, k.toNat ≤ 0x18 → regRead s k = cfgRead s.cfg k) ∧
    cfgRead s.cfg 0x00 = some s.cfg.sps ∧ cfgRead s.cfg 0x01 = some s.cfg.latency ∧
    cfgRead s.cfg 0x02 = some s.cfg.startPhase ∧ cfgRead s.cfg 0x03 = some s.cfg.mode ∧
    cfgRead s.cfg 0x04 = some s.cfg.dcA ∧ cfgRead s.cfg 0x05 = some s.cfg.lpALo ∧
    cfgRead s.cfg 0x06 = some s.cfg.lpAHi ∧ cfgRead s.cfg 0x07 = some s.cfg.envAtt ∧
    cfgRead s.cfg 0x08 = some s.cfg.envRel ∧ cfgRead s.cfg 0x09 = some s.cfg.gateLo ∧
    cfgRead s.cfg 0x0A = some s.cfg.gateHi ∧ cfgRead s.cfg 0x0B = some s.cfg.agcGmax ∧
    cfgRead s.cfg 0x0C = some s.cfg.trigDecay ∧ cfgRead s.cfg 0x0D = some s.cfg.trigSens ∧
    cfgRead s.cfg 0x0E = some s.cfg.trigHyst ∧ cfgRead s.cfg 0x0F = some s.cfg.pllShifts ∧
    cfgRead s.cfg 0x10 = some s.cfg.perA ∧ cfgRead s.cfg 0x11 = some s.cfg.outlierN ∧
    cfgRead s.cfg 0x12 = some s.cfg.syncShift ∧ cfgRead s.cfg 0x13 = some s.cfg.pidKp ∧
    cfgRead s.cfg 0x14 = some s.cfg.pidKi ∧ cfgRead s.cfg 0x15 = some s.cfg.pidKd ∧
    cfgRead s.cfg 0x16 = some s.cfg.pidDt ∧ cfgRead s.cfg 0x17 = some s.cfg.pidRate ∧
    cfgRead s.cfg 0x18 = some s.cfg.maxGain ∧
    regRead s 0x20 = some s.target ∧
    (regRead s 0x40).map BitVec.toNat = some (statusByte s).toNat ∧
    (regRead s 0x41).map BitVec.toNat = some s.err.toNat ∧
    regRead s 0x42 = some s.fsm.tick ∧ regRead s 0x43 = some s.osc.freq ∧
    regRead s 0x44 = some s.osc.phase ∧ regRead s 0x45 = some s.agc.dc ∧
    regRead s 0x46 = some s.agc.lp ∧ regRead s 0x47 = some s.agc.env ∧
    regRead s 0x48 = some s.trg.php ∧ regRead s 0x49 = some s.trg.phn ∧
    (regRead s 0x4A).map BitVec.toNat =
      some (s.trg.cmpp.toNat + 2 * s.trg.cmpn.toNat + 4 * s.trg.trig.toNat) ∧
    (regRead s 0x4B).map BitVec.toNat =
      some (s.pll.ffSig.toNat + 2 * s.pll.ffRef.toNat + 4 * s.pll.prevSig.toNat + 8 * s.pll.prevRef.toNat
        + 16 * s.pll.prevErr.toNat) ∧
    regRead s 0x4C = some s.fsm.phOfs ∧ regRead s 0x4D = some s.fsm.lastEdge ∧
    regRead s 0x4E = some s.fsm.periodEst ∧ regRead s 0x4F = some s.fsm.outlAcc ∧
    (regRead s 0x50).map BitVec.toNat = some s.fsm.outlCnt.toNat ∧
    regRead s 0x51 = some s.reg.integ ∧ regRead s 0x52 = some s.reg.perr ∧
    regRead s 0x53 = some s.reg.gain ∧ regRead s 0x54 = some s.out.out ∧
    regRead s 0x55 = some s.out.synth

/-- 10 R23: the fields of `STATUS`, and the same byte on every response, computed from the state after the command. -/
def Obligations.StatusIsComputedFromTheState : Prop :=
  (∀ s : State, (statusByte s).toNat =
    (match s.fsm.stage with | .stopped => 0 | .waiting => 1 | .running => 2 | .releasing => 3)
      + 4 * s.agc.gate.toNat + 8 * s.trg.trig.toNat + 16 * s.run.toNat + 32 * s.fsm.synced.toNat
      + 64 * (if s.osc.phase.toNat < s.osc.freq.toNat then 1 else 0) + 128 * (if s.err = 0 then 0 else 1)) ∧
  (∀ s : State, (regRead s 0x40).map BitVec.toNat = some (statusByte s).toNat) ∧
  (∀ (i : Instr) (s t : State), exec i s = .next t → ∃ r, t.rsp = some r ∧ r.status = statusByte t) ∧
  (∀ (s t : State) (r : Response), step s = .next t → t.rsp = some r → r.status = statusByte t)

/-- 47 R226: bit `k` of the bitmap is 1 exactly when check `k` fails, and no other bit is. -/
def Obligations.BadConfigIsTheBitmap : Prop :=
  ∀ c : ConfigRegs,
    ((badConfig c).getLsbD 0 = true ↔ c.sps = 0) ∧
    ((badConfig c).getLsbD 1 = true ↔ c.latency = 0) ∧
    ((badConfig c).getLsbD 2 = true ↔ c.mode.toNat / 2 ≠ 0) ∧
    ((badConfig c).getLsbD 3 = true ↔
      ∃ w ∈ [c.dcA, c.lpALo, c.lpAHi, c.envAtt, c.envRel, c.trigDecay, c.trigSens, c.perA],
        s32 w < 0 ∨ 16777216 < s32 w) ∧
    ((badConfig c).getLsbD 4 = true ↔ s32 c.lpAHi < s32 c.lpALo) ∧
    ((badConfig c).getLsbD 5 = true ↔ ¬(1 ≤ s32 c.gateLo ∧ s32 c.gateLo ≤ s32 c.gateHi)) ∧
    ((badConfig c).getLsbD 6 = true ↔ s32 c.agcGmax < 1) ∧
    ((badConfig c).getLsbD 7 = true ↔ s32 c.trigHyst < 0) ∧
    ((badConfig c).getLsbD 8 = true ↔ c.pllShifts.toNat / 32 % 8 ≠ 0 ∨ c.pllShifts.toNat / 8192 ≠ 0) ∧
    ((badConfig c).getLsbD 9 = true ↔ c.outlierN.toNat = 0 ∨ 255 < c.outlierN.toNat) ∧
    ((badConfig c).getLsbD 10 = true ↔ 31 < c.syncShift.toNat) ∧
    ((badConfig c).getLsbD 11 = true ↔ s32 c.pidDt ≤ 0 ∨ c.pidRate.toNat = 0 ∨ 65535 < c.pidRate.toNat) ∧
    ((badConfig c).getLsbD 12 = true ↔ s32 c.maxGain < 0) ∧
    (∀ k, 13 ≤ k → (badConfig c).getLsbD k = false)

/-- `START` finds nothing wrong exactly when every register is in its legal range of 10 R21. -/
def Obligations.NoFailedCheckMeansLegal : Prop :=
  ∀ c : ConfigRegs, badConfig c = 0 ↔ LegalConfig c

/-- 47 R218: `START` locks a legal configuration and leaves everything else as it stands; a failing one is answered by
`ERR_CONFIG` with the bitmap; `ERR_LOCKED` in RUN mode. -/
def Obligations.StartLocksOrReports : Prop :=
  ∀ s : State,
    decode 0x600000000000#48 = .command .start ∧
    (s.run = false → badConfig s.cfg = 0 → exec .start s = .next (answered 0 { s with run := true })) ∧
    (s.run = false → badConfig s.cfg ≠ 0 → exec .start s = .next (afterError 6 (badConfig s.cfg) s)) ∧
    (s.run = true → exec .start s = .next (afterError 4 0 s))

/-- 47 R227 and 70 R260: `RESET` loads the reset state, as the port does, and answers zeros. -/
def Obligations.ResetCommandLoadsResetState : Prop :=
  decode 0x800000000000#48 = .command .reset ∧
  ∀ s : State, exec .reset s = .next { afterReset s.host with rsp := some ⟨0, 0, 0⟩ }

/-- 10 R27: "The reset value of every register is 0, with one exception: `PREV_REF` is 1", seen through the register map. -/
def Obligations.ResetValuesAreZeroButPrevRef : Prop :=
  State.reset.run = false ∧ State.reset.pll.prevRef = true ∧
  regRead State.reset 0x4B = some 8 ∧
  (∀ (k : BitVec 8) (v : Word), k ≠ 0x4B → regRead State.reset k = some v → v = 0)

/-! ### The Level Regulator -/

/-- 46 R210: `SETTGT` writes `TARGET` in either mode, with any word, and nothing else. -/
def Obligations.SettgtWritesTarget : Prop :=
  ∀ (s : State) (v : Word),
    decode (0x3#4 ++ 0#4 ++ 0#8 ++ v) = .command (.settgt v) ∧
    exec (.settgt v) s = .next (answered 0 { s with target := v })

/-- 46 R209: `RGINIT` clears the regulator and nothing else; `ERR_NOTRUN` in CONFIG mode. -/
def Obligations.RginitClearsTheRegulator : Prop :=
  ∀ s : State,
    decode 0x700000000000#48 = .command .rginit ∧
    (s.run = true → exec .rginit s = .next (answered 0 { s with reg := ⟨0, 0, 0⟩ })) ∧
    (s.run = false → exec .rginit s = .next (afterError 5 0 s))

/-- 46 R201 to R207: one PID step with every saturation, the exact sum clamped into the gain, `adj` answered; the new gain lies in
`0 .. MAX_GAIN`. -/
def Obligations.RegulateFollowsThePid : Prop :=
  ∀ s : State,
    let c := s.cfg
    let e := subq (s32 s.target) (s32 s.agc.env)
    let p := mulq (s32 c.pidKp) e
    let integ := addq (s32 s.reg.integ) (mulq e (s32 c.pidDt))
    let i := mulq (s32 c.pidKi) integ
    let d := sat (mulq (s32 c.pidKd) (subq e (s32 s.reg.perr)) * (c.pidRate.toNat : Int))
    let adj := addq (addq p i) d
    let gain := min (max (s32 s.reg.gain + adj) 0) (s32 c.maxGain)
    decode 0x200000000000#48 = .command .regulate ∧
    (s.run = false → exec .regulate s = .next (afterError 5 0 s)) ∧
    (s.run = true → exec .regulate s =
      .next (answered (u32 adj) { s with reg := ⟨u32 integ, u32 e, u32 gain⟩ })) ∧
    (0 ≤ s32 c.maxGain → s32 (u32 gain) = gain ∧ 0 ≤ gain ∧ gain ≤ s32 c.maxGain)

/-- One call under the conditions the spec's own inference about the gain names (46 R211, "Guaranteed [derived: ...]"):
with `PID_KP`, `PID_KI` not negative, `PID_KD` 0, the envelope not above the target and the integrator not negative, the gain does
not fall, stays within `MAX_GAIN`, and the integrator stays not negative. -/
def Obligations.GainNeverFallsBelowTarget : Prop :=
  ∀ s t : State, s.run = true → 0 ≤ s32 s.cfg.pidKp → 0 ≤ s32 s.cfg.pidKi → s.cfg.pidKd = 0 →
    0 ≤ s32 s.cfg.pidDt → s32 s.agc.env ≤ s32 s.target → 0 ≤ s32 s.reg.integ →
    0 ≤ s32 s.reg.gain → s32 s.reg.gain ≤ s32 s.cfg.maxGain → exec .regulate s = .next t →
    s32 s.reg.gain ≤ s32 t.reg.gain ∧ s32 t.reg.gain ≤ s32 s.cfg.maxGain ∧ 0 ≤ s32 t.reg.integ

/-! ### SAMPLE: completion, frame, output -/

/-- 45 R165 and R190: in RUN mode `SAMPLE` always completes, answers `OUT = mulq(GAIN, SYNTH)`, counts one tick, and leaves the
regulator, `RUN`, `ERR`, `TARGET`, the configuration and the host's list alone; in CONFIG mode it is `ERR_NOTRUN`. -/
def Obligations.SampleCompletesAndAnswersOut : Prop :=
  ∀ (x : Word) (s : State),
    decode (0x1#4 ++ 0#4 ++ 0#8 ++ x) = .command (.sample x) ∧
    (s.run = false → exec (.sample x) s = .next (afterError 5 0 s)) ∧
    (s.run = true → ∃ t : State, exec (.sample x) s = .next t ∧
      t.rsp = some ⟨0, t.out.out, statusByte t⟩ ∧
      t.out.out = u32 (mulq (s32 s.reg.gain) (s32 t.out.synth)) ∧
      t.fsm.tick = s.fsm.tick + 1 ∧
      t.reg = s.reg ∧ t.run = s.run ∧ t.err = s.err ∧ t.target = s.target ∧ t.cfg = s.cfg ∧ t.host = s.host)

/-- 60 R245: `TICK` counts executed `SAMPLE` commands modulo 2^32 and nothing else writes it but reset. -/
def Obligations.OnlyExecutedSamplesCount : Prop :=
  ∀ (i : Instr) (s t : State), exec i s = .next t →
    t.fsm.tick =
      (match i with
       | .sample _ => if s.run then s.fsm.tick + 1 else s.fsm.tick
       | .reset => 0
       | _ => s.fsm.tick)

/-- 45 R167: the complete transition relation of `STAGE`; the phase before the advance is `PHASE - FREQ`. -/
def Obligations.StageTransitionsAreTheTable : Prop :=
  (∀ (x : Word) (s t : State), s.run = true → exec (.sample x) s = .next t →
    (s.fsm.stage = .stopped → t.agc.gate = false → t.fsm.stage = .stopped) ∧
    (s.fsm.stage = .waiting → t.agc.gate = false → t.fsm.stage = .stopped) ∧
    ((s.fsm.stage = .stopped ∨ s.fsm.stage = .waiting) → t.agc.gate = true →
      if t.fsm.synced = true ∧ (t.osc.phase - t.osc.freq).toNat < t.osc.freq.toNat
      then t.fsm.stage = .running else t.fsm.stage = .waiting) ∧
    (s.fsm.stage = .running → t.agc.gate = false → t.fsm.stage = .releasing) ∧
    (s.fsm.stage = .running → t.agc.gate = true → t.fsm.stage = .running) ∧
    (s.fsm.stage = .releasing →
      if s.osc.phase.toNat < s.osc.freq.toNat ∨ s.osc.freq = 0
      then t.fsm.stage = .stopped else t.fsm.stage = .releasing)) ∧
  (∀ (i : Instr) (s t : State), exec i s = .next t → (∀ x, i ≠ .sample x) → i ≠ .reset →
    t.fsm.stage = s.fsm.stage)

/-- 45 R188: 0 in Stopped and Waiting; in Running and Releasing the waveform at the phase before the advance. -/
def Obligations.OutputFollowsTheStage : Prop :=
  ∀ (x : Word) (s t : State), s.run = true → exec (.sample x) s = .next t →
    ((t.fsm.stage = .stopped ∨ t.fsm.stage = .waiting) → t.out.synth = 0 ∧ t.out.out = 0) ∧
    ((t.fsm.stage = .running ∨ t.fsm.stage = .releasing) →
      s32 t.out.synth = wave (t.osc.phase - t.osc.freq))

/-- 45 R168: a Stopped sample without activity runs the conditioner and the trigger, counts the tick, emits 0, and does
nothing else: the oscillator is not advanced. -/
def Obligations.StoppedSampleWithoutActivity : Prop :=
  ∀ (x : Word) (s : State), s.run = true → s.fsm.stage = .stopped →
    (agcStep s.cfg s.agc (s32 x)).1.gate = false →
    exec (.sample x) s = .next (answered 0 { s with
      agc := (agcStep s.cfg s.agc (s32 x)).1
      trg := (triggerStep s.cfg s.trg (agcStep s.cfg s.agc (s32 x)).2 false).1
      fsm := { s.fsm with tick := s.fsm.tick + 1 }
      out := ⟨0, 0⟩ })

/-- 45 R181, R183, R186: the hard cutoff of Waiting, and the end of Releasing at the origin or at standstill, enter Stopped: the
oscillator to the origin, the onset counters cleared, 0 emitted, nothing else touched. -/
def Obligations.EntryToStoppedClears : Prop :=
  ∀ (x : Word) (s : State), s.run = true →
    (s.fsm.stage = .waiting ∧ (agcStep s.cfg s.agc (s32 x)).1.gate = false) ∨
    (s.fsm.stage = .releasing ∧ (s.osc.phase.toNat < s.osc.freq.toNat ∨ s.osc.freq = 0)) →
    exec (.sample x) s = .next (answered 0 { s with
      agc := (agcStep s.cfg s.agc (s32 x)).1
      trg := (triggerStep s.cfg s.trg (agcStep s.cfg s.agc (s32 x)).2 (agcStep s.cfg s.agc (s32 x)).1.gate).1
      osc := ⟨0, 0⟩
      fsm := ⟨.stopped, false, s.fsm.tick + 1, 0, 0, 0, 0, 0⟩
      out := ⟨0, 0⟩ })

/-- 45 R184, R187: Running without activity enters Releasing and goes on sounding; Releasing goes on, whatever the activity, until
its origin: no tracking, only the waveform, the advance and the tick. -/
def Obligations.ReleasingSoundsOn : Prop :=
  ∀ (x : Word) (s : State), s.run = true →
    (s.fsm.stage = .running ∧ (agcStep s.cfg s.agc (s32 x)).1.gate = false) ∨
    (s.fsm.stage = .releasing ∧ ¬(s.osc.phase.toNat < s.osc.freq.toNat ∨ s.osc.freq = 0)) →
    exec (.sample x) s = .next (answered (u32 (mulq (s32 s.reg.gain) (wave s.osc.phase))) { s with
      agc := (agcStep s.cfg s.agc (s32 x)).1
      trg := (triggerStep s.cfg s.trg (agcStep s.cfg s.agc (s32 x)).2 (agcStep s.cfg s.agc (s32 x)).1.gate).1
      osc := ⟨s.osc.freq, s.osc.phase + s.osc.freq⟩
      fsm := { s.fsm with stage := .releasing, tick := s.fsm.tick + 1 }
      out := ⟨u32 (wave s.osc.phase), u32 (mulq (s32 s.reg.gain) (wave s.osc.phase))⟩ })

/-- 45 R178 to R180, R166: at a rising edge with a known period the target phase is set (first time) or approached, and kept in
`PH_OFS`; in every other tracked sample the phase only advances. -/
def Obligations.PhaseIsCompensatedAtEdges : Prop :=
  ∀ (x : Word) (s t : State), s.run = true → exec (.sample x) s = .next t → t.agc.gate = true →
    s.fsm.stage ≠ .releasing →
    let period := if s.cfg.mode.getLsbD 0 then (t.fsm.periodEst.toNat + 32768) / 65536
      else if t.osc.freq.toNat = 0 then 0 else 4294967296 / t.osc.freq.toNat
    let delay : Int := (period - s.cfg.latency.toNat % period : Nat)
    let target := u32 ((s.cfg.startPhase.toNat : Int) - delay * (t.osc.freq.toNat : Int))
    let before := t.osc.phase - t.osc.freq
    if (t.trg.trig = true ∧ s.trg.trig = false) ∧ 0 < period then
      (1 ≤ delay ∧ delay ≤ period) ∧ t.fsm.synced = true ∧ t.fsm.phOfs = target ∧
      (s.fsm.synced = false → before = target) ∧
      (s.fsm.synced = true → before =
        s.osc.phase + u32 ((target - s.osc.phase).toInt / 2 ^ s.cfg.syncShift.toNat))
    else t.fsm.synced = s.fsm.synced ∧ t.fsm.phOfs = s.fsm.phOfs ∧ before = s.osc.phase

/-- 44 R157, 45 R169, R182, R192: an onset loads the PLL state; in direct mode nothing else touches it; in PLL mode nothing but an
entry to Stopped touches the direct-timing registers. A tracked sample (gate open, not Releasing) leaves `FREQ` and its
variant's registers as one step of that variant gives them: `pll(trig)` in PLL mode, `direct_timing(edge)` in direct mode
(45 R166 steps 3 and 4). -/
def Obligations.TrackingVariantsStayApart : Prop :=
  ∀ (x : Word) (s t : State), s.run = true → exec (.sample x) s = .next t →
    (s.cfg.mode.getLsbD 0 = true →
      t.pll = if s.fsm.stage = .stopped ∧ t.agc.gate = true then ⟨false, false, false, true, 0⟩ else s.pll) ∧
    (s.cfg.mode.getLsbD 0 = false → (t.fsm.stage ≠ .stopped ∨ s.fsm.stage = .stopped) →
      t.fsm.lastEdge = s.fsm.lastEdge ∧ t.fsm.periodEst = s.fsm.periodEst ∧
      t.fsm.outlAcc = s.fsm.outlAcc ∧ t.fsm.outlCnt = s.fsm.outlCnt) ∧
    (s.cfg.mode.getLsbD 0 = false → t.agc.gate = true → s.fsm.stage ≠ .releasing →
      (t.pll, t.osc.freq) =
        (let r := pllStep s.cfg (if s.fsm.stage = .stopped then ⟨false, false, false, true, 0⟩ else s.pll)
            s.osc s.fsm.phOfs t.trg.trig
         (r.1, r.2.freq))) ∧
    (s.cfg.mode.getLsbD 0 = true → t.agc.gate = true → s.fsm.stage ≠ .releasing →
      let r := directTiming s.cfg s.fsm s.osc (t.trg.trig && !s.trg.trig)
      t.fsm.lastEdge = r.1.lastEdge ∧ t.fsm.periodEst = r.1.periodEst ∧
      t.fsm.outlAcc = r.1.outlAcc ∧ t.fsm.outlCnt = r.1.outlCnt ∧ t.osc.freq = r.2.freq)

/-! ### The units -/

/-- 42 R116 to R122: what one sample does to the conditioner, in every stage: the DC blocker, the low-pass on the old envelope,
the envelope follower, the hysteretic gate on the new envelope, and the normalisation under the new gate. -/
def Obligations.ConditionerFollowsItsSteps : Prop :=
  (∀ (x : Word) (s t : State), s.run = true → exec (.sample x) s = .next t →
    t.agc = (agcStep s.cfg s.agc (s32 x)).1 ∧
    t.trg = (triggerStep s.cfg s.trg (agcStep s.cfg s.agc (s32 x)).2 t.agc.gate).1) ∧
  (∀ (c : ConfigRegs) (a : AgcState) (x : Int),
    let dc := lp1 (s32 a.dc) x (s32 c.dcA)
    let hp := subq x dc
    let k := addq (s32 c.lpALo) (mulq (min (s32 a.env) 16777216) (subq (s32 c.lpAHi) (s32 c.lpALo)))
    let lp := lp1 (s32 a.lp) hp k
    let m := absq lp
    let env := if m > s32 a.env then lp1 (s32 a.env) m (s32 c.envAtt) else lp1 (s32 a.env) m (s32 c.envRel)
    let r := agcStep c a x
    s32 r.1.dc = dc ∧ s32 r.1.lp = lp ∧ s32 r.1.env = env ∧
    r.1.gate = (if env > s32 c.gateHi then true else if env < s32 c.gateLo then false else a.gate) ∧
    r.2 = if r.1.gate then mulq lp (min (recipq env) (s32 c.agcGmax)) else 0)

/-- 42 R120: the gate opens only above `GATE_HI` and closes only below `GATE_LO`; equality with a threshold does not flip it. -/
def Obligations.GateIsHysteretic : Prop :=
  ∀ (x : Word) (s t : State), s.run = true → exec (.sample x) s = .next t →
    (s32 t.agc.env > s32 s.cfg.gateHi → t.agc.gate = true) ∧
    (s32 t.agc.env < s32 s.cfg.gateLo → s32 s.cfg.gateLo ≤ s32 s.cfg.gateHi → t.agc.gate = false) ∧
    (s32 s.cfg.gateLo ≤ s32 t.agc.env → s32 t.agc.env ≤ s32 s.cfg.gateHi → t.agc.gate = s.agc.gate)

/-- The spec's own inference about the envelope (42 R124, "Invariants [derived: ...]"): with legal coefficients the
envelope stays not negative, and an open gate means an envelope of at least `GATE_LO >= 1`. -/
def Obligations.EnvelopeStaysNonnegative : Prop :=
  ∀ (c : ConfigRegs) (a : AgcState) (x : Int), LegalConfig c → 0 ≤ s32 a.env →
    0 ≤ s32 (agcStep c a x).1.env ∧
    ((agcStep c a x).1.gate = true →
      s32 c.gateLo ≤ s32 (agcStep c a x).1.env ∧ 1 ≤ s32 (agcStep c a x).1.env)

/-- 43 R136 to R141: the two peak detectors, the output state, and the edge. -/
def Obligations.TriggerFollowsItsSteps : Prop :=
  ∀ (c : ConfigRegs) (t : TriggerState) (x : Int) (act : Bool), -2147483648 ≤ x → x ≤ 2147483647 →
    let hold := fun (x ph : Int) => max (max x (subq ph (mulq (s32 c.trigDecay) ph))) 0
    let cmp := fun (x ph : Int) (old : Bool) =>
      let thr := mulq (s32 c.trigSens) ph
      if x > addq thr (s32 c.trigHyst) then true else if x < subq thr (s32 c.trigHyst) then false else old
    let r := triggerStep c t x act
    s32 r.1.php = hold x (s32 t.php) ∧ s32 r.1.phn = hold (negq x) (s32 t.phn) ∧
    r.1.cmpp = cmp x (hold x (s32 t.php)) t.cmpp ∧
    r.1.cmpn = cmp (negq x) (hold (negq x) (s32 t.phn)) t.cmpn ∧
    (act = false ∨ r.1.cmpn = true → r.1.trig = false) ∧
    (act = true → r.1.cmpn = false → r.1.cmpp = true → r.1.trig = true) ∧
    (act = true → r.1.cmpn = false → r.1.cmpp = false → r.1.trig = t.trig) ∧
    (r.2 = true ↔ r.1.trig = true ∧ t.trig = false)

/-- The spec's own inferences of 42 R123 ("[derived: from rules R116 to R122]") and 43 R143 ("[derived: from rules R136 to
R140]"): what a sample leaves in the conditioner depends on the conditioner, the sample and the configuration
alone, and what it leaves in the trigger on these and the trigger. -/
def Obligations.FrontEndIgnoresTheRest : Prop :=
  ∀ (x : Word) (s₁ s₂ t₁ t₂ : State), s₁.run = true → s₂.run = true → s₁.cfg = s₂.cfg → s₁.agc = s₂.agc →
    exec (.sample x) s₁ = .next t₁ → exec (.sample x) s₂ = .next t₂ →
    t₁.agc = t₂.agc ∧ (s₁.trg = s₂.trg → t₁.trg = t₂.trg)

/-- 46 R212 and 20 R47: the regulator and the target reach the hot path only through `OUT = mulq(GAIN, synth)`: two states that
differ in them alone leave a sample differing in them and in `OUT` alone. -/
def Obligations.RegulatorReachesOnlyOut : Prop :=
  ∀ (x : Word) (s t : State) (r : LevelState) (g : Word), s.run = true → exec (.sample x) s = .next t →
    let out := u32 (mulq (s32 r.gain) (s32 t.out.synth))
    exec (.sample x) { s with reg := r, target := g } =
      .next { t with
        reg := r
        target := g
        out := ⟨t.out.synth, out⟩
        rsp := some ⟨0, out, statusByte t⟩ }

/-- 44 R151 to R156: the reference level, the latches and their clear, the error, the loop filter and the frequency. -/
def Obligations.PllFollowsItsSteps : Prop :=
  ∀ (c : ConfigRegs) (p : PllState) (o : OscState) (phOfs : Word) (sig : Bool),
    let ref := decide ((o.phase - phOfs).toNat < 2147483648)
    let fs := p.ffSig || (sig && !p.prevSig)
    let fr := p.ffRef || (ref && !p.prevRef)
    let err : Int := (if fr then 1 else 0) - (if fs then 1 else 0)
    let delta := err * 2 ^ (c.pllShifts.toNat % 32)
      + (err - p.prevErr.toInt) * 2 ^ (c.pllShifts.toNat / 256 % 32)
    let r := pllStep c p o phOfs sig
    r.1.ffSig = (fs && !fr) ∧ r.1.ffRef = (fr && !fs) ∧ r.1.prevSig = sig ∧ r.1.prevRef = ref ∧
    r.1.prevErr.toInt = err ∧ r.2.phase = o.phase ∧
    (r.2.freq.toNat : Int) = min (max ((o.freq.toNat : Int) - delta) 0) 2147483648

/-- 44 R158, 45 R177: the period the compensation uses, and when it is "not yet measured". -/
def Obligations.TrackedPeriodIsGuarded : Prop :=
  ∀ s : State,
    (s.cfg.mode.getLsbD 0 = true →
      trackedPeriod s = (s.fsm.periodEst.toNat + 32768) / 65536 ∧
      ((s.fsm.periodEst = 0 ∨ 65536 ≤ s.fsm.periodEst.toNat) → (trackedPeriod s = 0 ↔ s.fsm.periodEst = 0))) ∧
    (s.cfg.mode.getLsbD 0 = false →
      (s.osc.freq = 0 → trackedPeriod s = 0) ∧
      (s.osc.freq ≠ 0 → trackedPeriod s = 4294967296 / s.osc.freq.toNat) ∧
      (s.osc.freq ≠ 0 → s.osc.freq.toNat ≤ 2147483648 → 2 ≤ trackedPeriod s))

/-- 45 R170: only an edge at a tick other than 0 is recorded; the first one only records its tick; a later one makes a reading of the
interval modulo 2^32, if it is positive. -/
def Obligations.EdgesAreRecorded : Prop :=
  ∀ (c : ConfigRegs) (f : FsmState) (o : OscState) (edge : Bool),
    (edge = false ∨ f.tick = 0 → directTiming c f o edge = (f, o)) ∧
    (edge = true → f.tick ≠ 0 → f.lastEdge = 0 → directTiming c f o edge = ({ f with lastEdge := f.tick }, o)) ∧
    (edge = true → f.tick ≠ 0 → f.lastEdge ≠ 0 → f.lastEdge ≠ f.tick →
      directTiming c f o edge =
        (let r := measurePeriod c ((f.tick.toNat + 4294967296 - f.lastEdge.toNat) % 4294967296) f o
         ({ r.1 with lastEdge := f.tick }, r.2))) ∧
    (edge = true → f.tick ≠ 0 → f.lastEdge = f.tick → directTiming c f o edge = (f, o))

/-- 45 R171 to R176: the reading, the band, seeding, smoothing, the outlier accumulator and its adoption, and the frequency. -/
def Obligations.MeasureFollowsItsSteps : Prop :=
  ∀ (c : ConfigRegs) (raw : Nat) (f : FsmState) (o : OscState), 0 < raw →
    0 ≤ s32 c.perA → s32 c.perA ≤ 16777216 → f.outlCnt.toNat < c.outlierN.toNat → c.outlierN.toNat ≤ 255 →
    (f.periodEst = 0 ∨ 65536 ≤ f.periodEst.toNat) → (f.outlCnt ≠ 0 → 65536 ≤ f.outlAcc.toNat) →
    let m := min raw 65535 * 65536
    let est := f.periodEst.toNat
    let inside := est * 16777216 / 17774840 ≤ m ∧ m ≤ est * 17774840 / 16777216
    let acc := if f.outlCnt = 0 then m else (f.outlAcc.toNat + m) / 2
    let r := measurePeriod c raw f o
    (est = 0 → r.1.periodEst.toNat = m ∧ r.1.outlCnt = 0 ∧ r.1.outlAcc = 0) ∧
    (est ≠ 0 → inside →
      (r.1.periodEst.toNat : Int) = (est : Int) + s32 c.perA * ((m : Int) - (est : Int)) / 16777216 ∧
      min est m ≤ r.1.periodEst.toNat ∧ r.1.periodEst.toNat ≤ max est m ∧
      r.1.outlCnt = 0 ∧ r.1.outlAcc = 0) ∧
    (est ≠ 0 → ¬inside → f.outlCnt.toNat + 1 < c.outlierN.toNat →
      r.1.periodEst = f.periodEst ∧ r.1.outlAcc.toNat = acc ∧ r.1.outlCnt.toNat = f.outlCnt.toNat + 1) ∧
    (est ≠ 0 → ¬inside → c.outlierN.toNat ≤ f.outlCnt.toNat + 1 →
      r.1.periodEst.toNat = acc ∧ r.1.outlCnt = 0 ∧ r.1.outlAcc = 0) ∧
    65536 ≤ r.1.periodEst.toNat ∧
    r.2.freq.toNat = min (281474976710656 / r.1.periodEst.toNat) 2147483648 ∧
    r.2.phase = o.phase ∧ r.1.stage = f.stage ∧ r.1.synced = f.synced ∧ r.1.tick = f.tick ∧
    r.1.lastEdge = f.lastEdge ∧ r.1.phOfs = f.phOfs

/-- 41 R101, R102, R104: the advance wraps modulo 2^32, a frequency is clamped into `0 .. 2^31`, and after an advance the origin
query holds exactly when the advance wrapped (or landed on the origin). -/
def Obligations.OscillatorWrapsAndClamps : Prop :=
  ∀ o : OscState,
    (oscAdvance o).phase.toNat = (o.phase.toNat + o.freq.toNat) % 4294967296 ∧
    (oscAdvance o).freq = o.freq ∧
    (∀ v : Int, ((oscSetFreq v o).freq.toNat : Int) = min (max v 0) 2147483648 ∧
      (oscSetFreq v o).phase = o.phase) ∧
    (oscAtOrigin o = true ↔ o.phase.toNat < o.freq.toNat) ∧
    (oscAtOrigin (oscAdvance o) = true ↔ 4294967296 ≤ o.phase.toNat + o.freq.toNat)

/-- 41 R105: the nudge moves the phase by the fraction `2^-SYNC_SHIFT`, rounded down, of the shortest-way distance, and is the
direct assignment at shift 0. -/
def Obligations.SyncPhaseNudgesByAFraction : Prop :=
  ∀ (k : Nat) (t : Word) (o : OscState),
    let d := if (t.toNat + 4294967296 - o.phase.toNat) % 4294967296 < 2147483648
      then (((t.toNat + 4294967296 - o.phase.toNat) % 4294967296 : Nat) : Int)
      else (((t.toNat + 4294967296 - o.phase.toNat) % 4294967296 : Nat) : Int) - 4294967296
    ((oscSyncPhase k t o).phase.toNat : Int) = ((o.phase.toNat : Int) + d / 2 ^ k) % 4294967296 ∧
    (oscSyncPhase k t o).freq = o.freq ∧
    (oscSyncPhase 0 t o).phase = t

/-- 41 R106 (b) and (c), of the hardware's waveform whatever its open part is, and 41 R107 of the reference instance. The form in
which the open parameter is held is the model's (log entry 3). -/
def Obligations.WaveformsKeepTheirBounds : Prop :=
  (wave 0 = 0 ∧ ∀ p : Word, -16777216 ≤ wave p ∧ wave p ≤ 16777216) ∧
  (waveTri 0 = 0 ∧ ∀ p : Word, -16777216 ≤ waveTri p ∧ waveTri p ≤ 16777216)

/-! ### Arithmetic -/

/-- 40 R81, R82, R83: saturation, and the primitives that saturate once. -/
def Obligations.SaturationClamps : Prop :=
  (∀ v : Int, sat v = max (-2147483648) (min v 2147483647)) ∧
  (∀ a b : Int, addq a b = max (-2147483648) (min (a + b) 2147483647) ∧
    subq a b = max (-2147483648) (min (a - b) 2147483647)) ∧
  (∀ a : Int, negq a = max (-2147483648) (min (-a) 2147483647) ∧
    absq a = min (max a (-a)) 2147483647 ∧ 0 ≤ absq a)

/-- 40 R84: `mulq` is the saturated floor of the product over 2^24, with its corner cases; the last clause is the
spec's own inference there ("lies between ... [derived: floor of a product with a factor in 0..1]"). -/
def Obligations.MulqIsTheFlooredProduct : Prop :=
  (∀ a b : Int, mulq a b = sat ⌊((a * b : Int) : ℚ) / 16777216⌋) ∧
  (∀ b : Int, -2147483648 ≤ b → b ≤ 2147483647 → mulq 16777216 b = b ∧ mulq 0 b = 0) ∧
  (∀ a b : Int, mulq a b = mulq b a) ∧
  mulq (-1) 1 = -1 ∧ mulq 1 1 = 0 ∧ mulq (-2147483648) (-2147483648) = 2147483647 ∧
  (∀ a b : Int, 0 ≤ a → a ≤ 16777216 → -2147483648 ≤ b → b ≤ 2147483647 →
    min b 0 ≤ mulq a b ∧ mulq a b ≤ max b 0)

/-- 40 R85: `recipq` is `floor(2^48 / e)` saturated, with its corner cases. -/
def Obligations.RecipqIsTheFlooredReciprocal : Prop :=
  (∀ e : Int, e ≤ 0 → recipq e = 2147483647) ∧
  (∀ e : Int, 0 < e → recipq e = min ⌊(281474976710656 : ℚ) / (e : ℚ)⌋ 2147483647) ∧
  recipq 16777216 = 16777216 ∧ recipq 1 = 2147483647 ∧ recipq 131073 = 2147467264 ∧
  recipq 131072 = 2147483647 ∧ recipq 2147483647 = 131072

/-- 40 R86: a one-pole step with a coefficient in `0 .. ONE` lies between its state and its input; coefficient 0 holds,
`ONE` replaces unless the difference saturates; upward steps stall, downward steps do not. That it lies between is the spec's own
inference ("[derived: from rule R84]"). -/
def Obligations.OnePoleStaysBetween : Prop :=
  ∀ y x a : Int, -2147483648 ≤ y → y ≤ 2147483647 → -2147483648 ≤ x → x ≤ 2147483647 →
    0 ≤ a → a ≤ 16777216 →
    (min y x ≤ lp1 y x a ∧ lp1 y x a ≤ max y x) ∧
    lp1 y x 0 = y ∧
    (-2147483648 ≤ x - y → x - y ≤ 2147483647 → lp1 y x 16777216 = x) ∧
    (y ≤ x → a * (x - y) < 16777216 → lp1 y x a = y) ∧
    (x < y → 0 < a → lp1 y x a < y)

/-- 40 R87: `u32` is the residue modulo 2^32, `s32` the two's-complement reading, and a register keeps a Q8.24 value. -/
def Obligations.WrapAndSignedReading : Prop :=
  (∀ v : Int, ((u32 v).toNat : Int) = v % 4294967296) ∧
  (∀ v : Int, s32 (u32 v) =
    if v % 4294967296 ≥ 2147483648 then v % 4294967296 - 4294967296 else v % 4294967296) ∧
  (∀ v : Int, -2147483648 ≤ v → v ≤ 2147483647 → s32 (u32 v) = v)

/-! ### The text form -/

/-- 30 R64: `q(r)` is `r * 2^24` rounded to the nearest integer, ties away from zero, where that lies in range. -/
def Obligations.QWordRoundsToNearest : Prop :=
  ∀ (neg : Bool) (num den : Nat), 0 < den →
    let r : ℚ := (if neg then -1 else 1) * ((num : ℚ) / (den : ℚ)) * 16777216
    ∃ v : Int, |r - v| ≤ 1 / 2 ∧ (|r - v| = 1 / 2 → |r| < |(v : ℚ)|) ∧
      qWord neg num den = if -2147483648 ≤ v ∧ v ≤ 2147483647 then some (u32 v) else none

/-! ### The invariant -/

/-- The invariant holds after reset, whatever the host goes on to present (10 R27; the invariant is the model's, around the
spec's own inference in 10 R28). -/
def Obligations.InvariantHoldsAtReset : Prop :=
  ∀ events : List HostEvent, Invariant (afterReset events)

/-- The spec's own inference of 10 R28 ("[derived: from the rules named]"), from every state: a step keeps the
invariant, which in RUN mode holds R28's whole list and a legal configuration, and in CONFIG mode the datapath at its reset values. -/
def Obligations.EveryStepKeepsTheInvariant : Prop :=
  ∀ s t : State, Invariant s → step s = .next t → Invariant t

/-- The spec's own inference of 10 R28, "In RUN mode, after every command, all of these hold", for every
command stream from reset. -/
def Obligations.EveryRunFromResetIsSound : Prop :=
  ∀ (events : List HostEvent) (n : Nat),
    ∃ t : State, ReachedFromReset events n t ∧ (t.run = true → Sound t ∧ LegalConfig t.cfg)
end

