-- ==== Sys2Proof/Laws/Arith.lean ====
section
/-! SUPPORT. The ranges of the primitives of `40_arithmetic.md`, and how a register keeps a value. -/

namespace Sys2Proof.Machine

/-- An integer that a Q8.24 word holds (40 R80). -/
abbrev InQ (v : Int) : Prop := Config.qMin ≤ v ∧ v ≤ Config.qMax

theorem s32_inQ (w : Word) : InQ (s32 w) := by
  have h1 := BitVec.toInt_lt (x := w)
  have h2 := BitVec.le_toInt (x := w)
  simp only [InQ, Config.qMin, Config.qMax, s32]
  omega

theorem sat_inQ (v : Int) : InQ (sat v) := by
  unfold sat InQ Config.qMin Config.qMax
  split
  · omega
  · split <;> omega

theorem sat_of_inQ {v : Int} (h : InQ v) : sat v = v := by
  unfold InQ at h
  unfold sat
  rw [if_neg (by omega), if_neg (by omega)]

theorem sat_nonneg {v : Int} (h : 0 ≤ v) : 0 ≤ sat v := by
  unfold sat Config.qMin Config.qMax
  split
  · omega
  · split <;> omega

theorem sat_mono {a b : Int} (h : a ≤ b) : sat a ≤ sat b := by
  unfold sat Config.qMin Config.qMax
  split <;> split <;> (try split) <;> (try split) <;> omega

theorem addq_inQ (a b : Int) : InQ (addq a b) := sat_inQ _
theorem subq_inQ (a b : Int) : InQ (subq a b) := sat_inQ _
theorem negq_inQ (a : Int) : InQ (negq a) := sat_inQ _
theorem absq_inQ (a : Int) : InQ (absq a) := sat_inQ _
theorem mulq_inQ (a b : Int) : InQ (mulq a b) := sat_inQ _
theorem lp1_inQ (y x a : Int) : InQ (lp1 y x a) := sat_inQ _

/-- A register keeps a Q8.24 value as it is. -/
theorem s32_u32 {v : Int} (h : InQ v) : s32 (u32 v) = v := by
  unfold InQ Config.qMin Config.qMax at h
  unfold s32 u32
  rw [BitVec.toInt_ofInt]
  simp only [Int.bmod]
  omega

@[simp] theorem u32_s32 (w : Word) : u32 (s32 w) = w := by
  unfold u32 s32
  exact BitVec.ofInt_toInt

theorem u32_toNat_of_lt {v : Int} (h0 : 0 ≤ v) (h : v < 4294967296) : ((u32 v).toNat : Int) = v := by
  unfold u32
  rw [BitVec.toNat_ofInt]
  omega

theorem clamp_bounds {v lo hi : Int} (h : lo ≤ hi) : lo ≤ clamp v lo hi ∧ clamp v lo hi ≤ hi := by
  unfold clamp; omega

end Sys2Proof.Machine
end

