-- ==== Sys2Proof/Laws/Decode.lean ====
section
/-! SUPPORT. The fields of a command word: as numbers, as bits, and of a packed word. -/

namespace Sys2Proof

theorem opField_toNat (w : Command) : (opField w).toNat = w.toNat / 17592186044416 := by
  have h := w.isLt
  simp only [opField, BitVec.extractLsb'_toNat, Nat.shiftRight_eq_div_pow]
  omega

theorem rsvField_toNat (w : Command) : (rsvField w).toNat = w.toNat / 1099511627776 % 16 := by
  simp only [rsvField, BitVec.extractLsb'_toNat, Nat.shiftRight_eq_div_pow]

theorem idxField_toNat (w : Command) : (idxField w).toNat = w.toNat / 4294967296 % 256 := by
  simp only [idxField, BitVec.extractLsb'_toNat, Nat.shiftRight_eq_div_pow]

theorem dataField_toNat (w : Command) : (dataField w).toNat = w.toNat % 4294967296 := by
  simp only [dataField, BitVec.extractLsb'_toNat, Nat.shiftRight_eq_div_pow]
  omega

/-- The bits of a packed word, field by field (30 R57). -/
theorem packWord_getLsbD (op : BitVec 4) (k : BitVec 8) (d : Word) (j : Nat) :
    (packWord op k d).getLsbD j =
      if j < 32 then d.getLsbD j
      else if j < 40 then k.getLsbD (j - 32)
      else if j < 44 then false
      else op.getLsbD (j - 44) := by
  unfold packWord
  simp only [BitVec.getLsbD_append]
  have h1 : j - 32 < 8 ↔ j < 40 ∨ j < 32 := by omega
  have h2 : j - 32 - 8 < 4 ↔ j < 44 := by omega
  have h3 : j - 32 - 8 - 4 = j - 44 := by omega
  rw [h3]
  by_cases a : j < 32
  · simp [a]
  · by_cases b : j < 40
    · simp [a, b, h1]
    · by_cases c : j < 44
      · simp [a, b, c, h1, h2]
      · simp [a, b, c, h1, h2]

@[simp] theorem opField_packWord (op : BitVec 4) (k : BitVec 8) (d : Word) : opField (packWord op k d) = op := by
  apply BitVec.eq_of_getLsbD_eq
  intro j hj
  have : ¬44 + j < 32 := by omega
  have : ¬44 + j < 40 := by omega
  simp [opField, packWord_getLsbD, *]

@[simp] theorem rsvField_packWord (op : BitVec 4) (k : BitVec 8) (d : Word) : rsvField (packWord op k d) = 0#4 := by
  apply BitVec.eq_of_getLsbD_eq
  intro j hj
  have : 40 + j < 44 := by omega
  have : ¬40 + j < 32 := by omega
  simp [rsvField, packWord_getLsbD, *]

@[simp] theorem idxField_packWord (op : BitVec 4) (k : BitVec 8) (d : Word) : idxField (packWord op k d) = k := by
  apply BitVec.eq_of_getLsbD_eq
  intro j hj
  have : 32 + j < 40 := by omega
  simp [idxField, packWord_getLsbD, *]

@[simp] theorem dataField_packWord (op : BitVec 4) (k : BitVec 8) (d : Word) : dataField (packWord op k d) = d := by
  apply BitVec.eq_of_getLsbD_eq
  intro j hj
  simp [dataField, packWord_getLsbD, hj]

/-- A word is its four fields (30 R57). -/
theorem packWord_fields {w : Command} (h : rsvField w = 0#4) : packWord (opField w) (idxField w) (dataField w) = w := by
  apply BitVec.eq_of_getLsbD_eq
  intro j hj
  rw [packWord_getLsbD]
  split
  · simp [dataField, *]
  · split
    · simp only [idxField, BitVec.getLsbD_extractLsb']
      rw [show 32 + (j - 32) = j by omega]
      simp; omega
    · split
      · have h4 : (rsvField w).getLsbD (j - 40) = (0#4).getLsbD (j - 40) := by rw [h]
        simp only [rsvField, BitVec.getLsbD_extractLsb'] at h4
        rw [show 40 + (j - 40) = j by omega, show decide (j - 40 < 4) = true by simp; omega] at h4
        simpa using h4.symm
      · simp only [opField, BitVec.getLsbD_extractLsb']
        rw [show 44 + (j - 44) = j by omega]
        simp; omega

end Sys2Proof
end

