-- ==== Sys2Proof/Laws/PerInstr.lean ====
section
/-! SUPPORT. Per instruction: its command word is covered by its own row of the opcode map (30 R59). -/

namespace Sys2Proof.Laws

/-- The word `encode` writes lies in the row of 30 R59 that bears the instruction's mnemonic. -/
def EncodesItsRow.Statement (i : Instr) : Prop :=
  ∃ r ∈ opcodeRows, r.mnemonic = i.mnemonic ∧ r.covers (encode i) = true

/-- A packed word under a mask, bit by bit. -/
theorem covers_of_bits {op : BitVec 4} {k : BitVec 8} {d : Word} {mask pattern : Command}
    (h : ∀ j, j < 48 → ((packWord op k d).getLsbD j && mask.getLsbD j) = pattern.getLsbD j) :
    (packWord op k d &&& mask == pattern) = true := by
  rw [beq_iff_eq]
  apply BitVec.eq_of_getLsbD_eq
  intro j hj
  rw [BitVec.getLsbD_and]
  exact h j hj

theorem EncodesItsRow.nop : EncodesItsRow.Statement .nop :=
  ⟨_, List.mem_cons_self, rfl, by decide⟩

theorem EncodesItsRow.sample (x : Word) : EncodesItsRow.Statement (.sample x) := by
  refine ⟨⟨"SAMPLE", 0x100000000000#48, 0xFFFF00000000#48⟩, by simp [opcodeRows], rfl, covers_of_bits fun j hj => ?_⟩
  rw [packWord_getLsbD]
  interval_cases j <;> simp

theorem EncodesItsRow.regulate : EncodesItsRow.Statement .regulate :=
  ⟨⟨"REGULATE", 0x200000000000#48, 0xFFFFFFFFFFFF#48⟩, by simp [opcodeRows], rfl, by decide⟩

theorem EncodesItsRow.settgt (v : Word) : EncodesItsRow.Statement (.settgt v) := by
  refine ⟨⟨"SETTGT", 0x300000000000#48, 0xFFFF00000000#48⟩, by simp [opcodeRows], rfl, covers_of_bits fun j hj => ?_⟩
  rw [packWord_getLsbD]
  interval_cases j <;> simp

theorem EncodesItsRow.wrcfg (k : BitVec 8) (v : Word) : EncodesItsRow.Statement (.wrcfg k v) := by
  refine ⟨⟨"WRCFG", 0x400000000000#48, 0xFF0000000000#48⟩, by simp [opcodeRows], rfl, covers_of_bits fun j hj => ?_⟩
  rw [packWord_getLsbD]
  interval_cases j <;> simp

theorem EncodesItsRow.rdreg (k : BitVec 8) : EncodesItsRow.Statement (.rdreg k) := by
  refine ⟨⟨"RDREG", 0x500000000000#48, 0xFF00FFFFFFFF#48⟩, by simp [opcodeRows], rfl, covers_of_bits fun j hj => ?_⟩
  rw [packWord_getLsbD]
  interval_cases j <;> simp

theorem EncodesItsRow.start : EncodesItsRow.Statement .start :=
  ⟨⟨"START", 0x600000000000#48, 0xFFFFFFFFFFFF#48⟩, by simp [opcodeRows], rfl, by decide⟩

theorem EncodesItsRow.rginit : EncodesItsRow.Statement .rginit :=
  ⟨⟨"RGINIT", 0x700000000000#48, 0xFFFFFFFFFFFF#48⟩, by simp [opcodeRows], rfl, by decide⟩

theorem EncodesItsRow.reset : EncodesItsRow.Statement .reset :=
  ⟨⟨"RESET", 0x800000000000#48, 0xFFFFFFFFFFFF#48⟩, by simp [opcodeRows], rfl, by decide⟩

end Sys2Proof.Laws
end

