-- ==== Sys2Proof/Laws/State.lean ====
section
/-! SUPPORT. What each shared operation over the whole state leaves alone, one lemma per field, and what each answers. -/

namespace Sys2Proof.Machine

/-! ### The response port, the error register, reset -/

@[simp] theorem respond_osc (e : BitVec 4) (d : Word) (s : State) : (respond e d s).osc = s.osc := rfl
@[simp] theorem respond_agc (e : BitVec 4) (d : Word) (s : State) : (respond e d s).agc = s.agc := rfl
@[simp] theorem respond_trg (e : BitVec 4) (d : Word) (s : State) : (respond e d s).trg = s.trg := rfl
@[simp] theorem respond_pll (e : BitVec 4) (d : Word) (s : State) : (respond e d s).pll = s.pll := rfl
@[simp] theorem respond_fsm (e : BitVec 4) (d : Word) (s : State) : (respond e d s).fsm = s.fsm := rfl
@[simp] theorem respond_reg (e : BitVec 4) (d : Word) (s : State) : (respond e d s).reg = s.reg := rfl
@[simp] theorem respond_out (e : BitVec 4) (d : Word) (s : State) : (respond e d s).out = s.out := rfl
@[simp] theorem respond_run (e : BitVec 4) (d : Word) (s : State) : (respond e d s).run = s.run := rfl
@[simp] theorem respond_err (e : BitVec 4) (d : Word) (s : State) : (respond e d s).err = s.err := rfl
@[simp] theorem respond_target (e : BitVec 4) (d : Word) (s : State) : (respond e d s).target = s.target := rfl
@[simp] theorem respond_cfg (e : BitVec 4) (d : Word) (s : State) : (respond e d s).cfg = s.cfg := rfl
@[simp] theorem respond_host (e : BitVec 4) (d : Word) (s : State) : (respond e d s).host = s.host := rfl
@[simp] theorem respond_rsp (e : BitVec 4) (d : Word) (s : State) :
    (respond e d s).rsp = some ⟨e, d, statusByte s⟩ := rfl

/-- The response port takes no part in the status. -/
@[simp] theorem statusByte_respond (e : BitVec 4) (d : Word) (s : State) :
    statusByte (respond e d s) = statusByte s := rfl

@[simp] theorem recordError_osc (e : ErrCode) (s : State) : (recordError e s).osc = s.osc := by unfold recordError; split <;> rfl
@[simp] theorem recordError_agc (e : ErrCode) (s : State) : (recordError e s).agc = s.agc := by unfold recordError; split <;> rfl
@[simp] theorem recordError_trg (e : ErrCode) (s : State) : (recordError e s).trg = s.trg := by unfold recordError; split <;> rfl
@[simp] theorem recordError_pll (e : ErrCode) (s : State) : (recordError e s).pll = s.pll := by unfold recordError; split <;> rfl
@[simp] theorem recordError_fsm (e : ErrCode) (s : State) : (recordError e s).fsm = s.fsm := by unfold recordError; split <;> rfl
@[simp] theorem recordError_reg (e : ErrCode) (s : State) : (recordError e s).reg = s.reg := by unfold recordError; split <;> rfl
@[simp] theorem recordError_out (e : ErrCode) (s : State) : (recordError e s).out = s.out := by unfold recordError; split <;> rfl
@[simp] theorem recordError_run (e : ErrCode) (s : State) : (recordError e s).run = s.run := by unfold recordError; split <;> rfl
@[simp] theorem recordError_target (e : ErrCode) (s : State) : (recordError e s).target = s.target := by unfold recordError; split <;> rfl
@[simp] theorem recordError_cfg (e : ErrCode) (s : State) : (recordError e s).cfg = s.cfg := by unfold recordError; split <;> rfl
@[simp] theorem recordError_host (e : ErrCode) (s : State) : (recordError e s).host = s.host := by unfold recordError; split <;> rfl
@[simp] theorem recordError_rsp (e : ErrCode) (s : State) : (recordError e s).rsp = s.rsp := by unfold recordError; split <;> rfl
theorem recordError_err (e : ErrCode) (s : State) :
    (recordError e s).err = if s.err = 0 then errCode e else s.err := by unfold recordError; split <;> rfl

/-- The sticky write, as one record update. -/
theorem recordError_eq (e : ErrCode) (s : State) :
    recordError e s = { s with err := if s.err = 0 then errCode e else s.err } := by
  unfold recordError; split <;> rfl

@[simp] theorem loadReset_host (s : State) : (loadReset s).host = s.host := rfl
@[simp] theorem loadReset_rsp (s : State) : (loadReset s).rsp = none := rfl
@[simp] theorem loadReset_run (s : State) : (loadReset s).run = false := rfl
@[simp] theorem loadReset_err (s : State) : (loadReset s).err = 0 := rfl

@[simp] theorem idle_osc (s : State) : (idle s).osc = s.osc := rfl
@[simp] theorem idle_agc (s : State) : (idle s).agc = s.agc := rfl
@[simp] theorem idle_trg (s : State) : (idle s).trg = s.trg := rfl
@[simp] theorem idle_pll (s : State) : (idle s).pll = s.pll := rfl
@[simp] theorem idle_fsm (s : State) : (idle s).fsm = s.fsm := rfl
@[simp] theorem idle_reg (s : State) : (idle s).reg = s.reg := rfl
@[simp] theorem idle_out (s : State) : (idle s).out = s.out := rfl
@[simp] theorem idle_run (s : State) : (idle s).run = s.run := rfl
@[simp] theorem idle_err (s : State) : (idle s).err = s.err := rfl
@[simp] theorem idle_target (s : State) : (idle s).target = s.target := rfl
@[simp] theorem idle_cfg (s : State) : (idle s).cfg = s.cfg := rfl
@[simp] theorem idle_host (s : State) : (idle s).host = s.host := rfl
@[simp] theorem idle_rsp (s : State) : (idle s).rsp = none := rfl

@[simp] theorem presentWord_osc (w : Command) (s : State) : (presentWord w s).osc = s.osc := rfl
@[simp] theorem presentWord_agc (w : Command) (s : State) : (presentWord w s).agc = s.agc := rfl
@[simp] theorem presentWord_trg (w : Command) (s : State) : (presentWord w s).trg = s.trg := rfl
@[simp] theorem presentWord_pll (w : Command) (s : State) : (presentWord w s).pll = s.pll := rfl
@[simp] theorem presentWord_fsm (w : Command) (s : State) : (presentWord w s).fsm = s.fsm := rfl
@[simp] theorem presentWord_reg (w : Command) (s : State) : (presentWord w s).reg = s.reg := rfl
@[simp] theorem presentWord_out (w : Command) (s : State) : (presentWord w s).out = s.out := rfl
@[simp] theorem presentWord_run (w : Command) (s : State) : (presentWord w s).run = s.run := rfl
@[simp] theorem presentWord_err (w : Command) (s : State) : (presentWord w s).err = s.err := rfl
@[simp] theorem presentWord_target (w : Command) (s : State) : (presentWord w s).target = s.target := rfl
@[simp] theorem presentWord_cfg (w : Command) (s : State) : (presentWord w s).cfg = s.cfg := rfl
@[simp] theorem presentWord_rsp (w : Command) (s : State) : (presentWord w s).rsp = s.rsp := rfl
@[simp] theorem presentWord_host (w : Command) (s : State) : (presentWord w s).host = .command w :: s.host := rfl

/-! ### What an answer is -/

/-- A command that succeeds answers a next state, with its result on the port. -/
theorem succeed_eq (d : Word) (s : State) : succeed d s = .next (respond 0 d s) := rfl

/-- An error answers a next state too: only `ERR` and the port are written (60 R236). -/
theorem raiseError_eq (e : ErrCode) (d : Word) (s : State) :
    raiseError e d s = .next (respond (errCode e) d (recordError e s)) := rfl

@[simp] theorem needRun_true {s : State} (h : s.run = true) (k : Host.Outcome State Fault Refusal) :
    needRun s k = k := by simp [needRun, h]

@[simp] theorem needRun_false {s : State} (h : s.run = false) (k : Host.Outcome State Fault Refusal) :
    needRun s k = raiseError .notRun 0 s := by simp [needRun, h]

@[simp] theorem needConfig_false {s : State} (h : s.run = false) (k : Host.Outcome State Fault Refusal) :
    needConfig s k = k := by simp [needConfig, h]

@[simp] theorem needConfig_true {s : State} (h : s.run = true) (k : Host.Outcome State Fault Refusal) :
    needConfig s k = raiseError .locked 0 s := by simp [needConfig, h]

theorem succeed_next {d : Word} {s t : State} (h : succeed d s = .next t) : t = respond 0 d s := by
  cases h; rfl

theorem raiseError_next {e : ErrCode} {d : Word} {s t : State} (h : raiseError e d s = .next t) :
    t = respond (errCode e) d (recordError e s) := by
  cases h; rfl

/-- What a RUN-mode command can do: its own effect in RUN mode, `ERR_NOTRUN` in CONFIG mode. -/
theorem needRun_next {s t : State} {k : Host.Outcome State Fault Refusal} (h : needRun s k = .next t) :
    (s.run = true ∧ k = .next t) ∨ (s.run = false ∧ t = respond (errCode .notRun) 0 (recordError .notRun s)) := by
  cases hr : s.run with
  | true => rw [needRun_true hr] at h; exact .inl ⟨rfl, h⟩
  | false => rw [needRun_false hr] at h; exact .inr ⟨rfl, raiseError_next h⟩

/-- What a CONFIG-mode command can do: its own effect in CONFIG mode, `ERR_LOCKED` in RUN mode. -/
theorem needConfig_next {s t : State} {k : Host.Outcome State Fault Refusal} (h : needConfig s k = .next t) :
    (s.run = false ∧ k = .next t) ∨ (s.run = true ∧ t = respond (errCode .locked) 0 (recordError .locked s)) := by
  cases hr : s.run with
  | false => rw [needConfig_false hr] at h; exact .inl ⟨rfl, h⟩
  | true => rw [needConfig_true hr] at h; exact .inr ⟨rfl, raiseError_next h⟩

/-! ### The host's events -/

theorem takeEvent_nil {s : State} (h : s.host = []) : takeEvent s = none := by simp [takeEvent, h]

theorem takeEvent_cons {s : State} {e : HostEvent} {rest : List HostEvent} (h : s.host = e :: rest) :
    takeEvent s = some (e, { s with host := rest }) := by simp [takeEvent, h]

/-- Everything a step can do. -/
theorem step_cases (s : State) :
    (s.host = [] ∧ step s = .next (idle s)) ∨
    (∃ rest, s.host = .rst :: rest ∧ step s = .next (portReset { s with host := rest })) ∨
    (∃ w rest i, s.host = .command w :: rest ∧ decode w = .command i ∧ step s = exec i { s with host := rest }) ∨
    (∃ w rest e, s.host = .command w :: rest ∧ decode w = .illegal e ∧
      step s = rejectWord e { s with host := rest }) := by
  cases hh : s.host with
  | nil => exact .inl ⟨rfl, by simp [step, takeEvent_nil hh]⟩
  | cons e rest =>
    cases e with
    | rst => exact .inr (.inl ⟨rest, rfl, by simp [step, takeEvent_cons hh]⟩)
    | command w =>
      cases hd : decode w with
      | command i => exact .inr (.inr (.inl ⟨w, rest, i, rfl, hd, by simp [step, takeEvent_cons hh, hd]⟩))
      | illegal e => exact .inr (.inr (.inr ⟨w, rest, e, rfl, hd, by simp [step, takeEvent_cons hh, hd]⟩))

end Sys2Proof.Machine
end

