-- ==== Sys2Proof/Laws/Sustain.lean ====
section
/-! SUPPORT. What each part of `SAMPLE` leaves alone, one lemma per field, and the sequence of 45 R166 stage by stage. -/

namespace Sys2Proof.Machine

/-! ### Frames -/

@[simp] theorem emit_osc (v : Int) (s : State) : (emit v s).osc = s.osc := rfl
@[simp] theorem emit_agc (v : Int) (s : State) : (emit v s).agc = s.agc := rfl
@[simp] theorem emit_trg (v : Int) (s : State) : (emit v s).trg = s.trg := rfl
@[simp] theorem emit_pll (v : Int) (s : State) : (emit v s).pll = s.pll := rfl
@[simp] theorem emit_reg (v : Int) (s : State) : (emit v s).reg = s.reg := rfl
@[simp] theorem emit_run (v : Int) (s : State) : (emit v s).run = s.run := rfl
@[simp] theorem emit_err (v : Int) (s : State) : (emit v s).err = s.err := rfl
@[simp] theorem emit_target (v : Int) (s : State) : (emit v s).target = s.target := rfl
@[simp] theorem emit_cfg (v : Int) (s : State) : (emit v s).cfg = s.cfg := rfl
@[simp] theorem emit_host (v : Int) (s : State) : (emit v s).host = s.host := rfl
@[simp] theorem emit_rsp (v : Int) (s : State) : (emit v s).rsp = s.rsp := rfl
@[simp] theorem emit_out (v : Int) (s : State) :
    (emit v s).out = ⟨u32 v, u32 (mulq (s32 s.reg.gain) v)⟩ := rfl
@[simp] theorem emit_fsm (v : Int) (s : State) :
    (emit v s).fsm = { s.fsm with tick := s.fsm.tick + 1 } := rfl
@[simp] theorem enterStopped_agc (s : State) : (enterStopped s).agc = s.agc := rfl
@[simp] theorem enterStopped_trg (s : State) : (enterStopped s).trg = s.trg := rfl
@[simp] theorem enterStopped_pll (s : State) : (enterStopped s).pll = s.pll := rfl
@[simp] theorem enterStopped_reg (s : State) : (enterStopped s).reg = s.reg := rfl
@[simp] theorem enterStopped_out (s : State) : (enterStopped s).out = s.out := rfl
@[simp] theorem enterStopped_run (s : State) : (enterStopped s).run = s.run := rfl
@[simp] theorem enterStopped_err (s : State) : (enterStopped s).err = s.err := rfl
@[simp] theorem enterStopped_target (s : State) : (enterStopped s).target = s.target := rfl
@[simp] theorem enterStopped_cfg (s : State) : (enterStopped s).cfg = s.cfg := rfl
@[simp] theorem enterStopped_host (s : State) : (enterStopped s).host = s.host := rfl
@[simp] theorem enterStopped_rsp (s : State) : (enterStopped s).rsp = s.rsp := rfl
@[simp] theorem enterStopped_osc (s : State) : (enterStopped s).osc = ⟨0, 0⟩ := rfl
@[simp] theorem enterStopped_fsm (s : State) :
    (enterStopped s).fsm = ⟨.stopped, false, s.fsm.tick, 0, 0, 0, 0, 0⟩ := rfl
@[simp] theorem onset_osc (s : State) : (onset s).osc = s.osc := rfl
@[simp] theorem onset_agc (s : State) : (onset s).agc = s.agc := rfl
@[simp] theorem onset_trg (s : State) : (onset s).trg = s.trg := rfl
@[simp] theorem onset_fsm (s : State) : (onset s).fsm = s.fsm := rfl
@[simp] theorem onset_reg (s : State) : (onset s).reg = s.reg := rfl
@[simp] theorem onset_out (s : State) : (onset s).out = s.out := rfl
@[simp] theorem onset_run (s : State) : (onset s).run = s.run := rfl
@[simp] theorem onset_err (s : State) : (onset s).err = s.err := rfl
@[simp] theorem onset_target (s : State) : (onset s).target = s.target := rfl
@[simp] theorem onset_cfg (s : State) : (onset s).cfg = s.cfg := rfl
@[simp] theorem onset_host (s : State) : (onset s).host = s.host := rfl
@[simp] theorem onset_rsp (s : State) : (onset s).rsp = s.rsp := rfl
@[simp] theorem onset_pll (s : State) : (onset s).pll = ⟨false, false, false, true, 0⟩ := rfl
@[simp] theorem frontEnd_osc (x : Int) (s : State) : (frontEnd x s).1.osc = s.osc := rfl
@[simp] theorem frontEnd_pll (x : Int) (s : State) : (frontEnd x s).1.pll = s.pll := rfl
@[simp] theorem frontEnd_fsm (x : Int) (s : State) : (frontEnd x s).1.fsm = s.fsm := rfl
@[simp] theorem frontEnd_reg (x : Int) (s : State) : (frontEnd x s).1.reg = s.reg := rfl
@[simp] theorem frontEnd_out (x : Int) (s : State) : (frontEnd x s).1.out = s.out := rfl
@[simp] theorem frontEnd_run (x : Int) (s : State) : (frontEnd x s).1.run = s.run := rfl
@[simp] theorem frontEnd_err (x : Int) (s : State) : (frontEnd x s).1.err = s.err := rfl
@[simp] theorem frontEnd_target (x : Int) (s : State) : (frontEnd x s).1.target = s.target := rfl
@[simp] theorem frontEnd_cfg (x : Int) (s : State) : (frontEnd x s).1.cfg = s.cfg := rfl
@[simp] theorem frontEnd_host (x : Int) (s : State) : (frontEnd x s).1.host = s.host := rfl
@[simp] theorem frontEnd_rsp (x : Int) (s : State) : (frontEnd x s).1.rsp = s.rsp := rfl
@[simp] theorem frontEnd_agc (x : Int) (s : State) : (frontEnd x s).1.agc = (agcStep s.cfg s.agc x).1 := rfl
@[simp] theorem frontEnd_trg (x : Int) (s : State) :
    (frontEnd x s).1.trg = (triggerStep s.cfg s.trg (agcStep s.cfg s.agc x).2 (agcStep s.cfg s.agc x).1.gate).1 := rfl
@[simp] theorem frontEnd_edge (x : Int) (s : State) :
    (frontEnd x s).2 = (triggerStep s.cfg s.trg (agcStep s.cfg s.agc x).2 (agcStep s.cfg s.agc x).1.gate).2 := rfl
@[simp] theorem trackVariant_agc (e : Bool) (s : State) : (trackVariant e s).agc = s.agc := by unfold trackVariant; split <;> rfl
@[simp] theorem trackVariant_trg (e : Bool) (s : State) : (trackVariant e s).trg = s.trg := by unfold trackVariant; split <;> rfl
@[simp] theorem trackVariant_reg (e : Bool) (s : State) : (trackVariant e s).reg = s.reg := by unfold trackVariant; split <;> rfl
@[simp] theorem trackVariant_out (e : Bool) (s : State) : (trackVariant e s).out = s.out := by unfold trackVariant; split <;> rfl
@[simp] theorem trackVariant_run (e : Bool) (s : State) : (trackVariant e s).run = s.run := by unfold trackVariant; split <;> rfl
@[simp] theorem trackVariant_err (e : Bool) (s : State) : (trackVariant e s).err = s.err := by unfold trackVariant; split <;> rfl
@[simp] theorem trackVariant_target (e : Bool) (s : State) : (trackVariant e s).target = s.target := by unfold trackVariant; split <;> rfl
@[simp] theorem trackVariant_cfg (e : Bool) (s : State) : (trackVariant e s).cfg = s.cfg := by unfold trackVariant; split <;> rfl
@[simp] theorem trackVariant_host (e : Bool) (s : State) : (trackVariant e s).host = s.host := by unfold trackVariant; split <;> rfl
@[simp] theorem trackVariant_rsp (e : Bool) (s : State) : (trackVariant e s).rsp = s.rsp := by unfold trackVariant; split <;> rfl
@[simp] theorem compensateAt_agc (e : Bool) (s : State) : (compensateAt e s).agc = s.agc := by unfold compensateAt; split <;> rfl
@[simp] theorem compensateAt_trg (e : Bool) (s : State) : (compensateAt e s).trg = s.trg := by unfold compensateAt; split <;> rfl
@[simp] theorem compensateAt_pll (e : Bool) (s : State) : (compensateAt e s).pll = s.pll := by unfold compensateAt; split <;> rfl
@[simp] theorem compensateAt_reg (e : Bool) (s : State) : (compensateAt e s).reg = s.reg := by unfold compensateAt; split <;> rfl
@[simp] theorem compensateAt_out (e : Bool) (s : State) : (compensateAt e s).out = s.out := by unfold compensateAt; split <;> rfl
@[simp] theorem compensateAt_run (e : Bool) (s : State) : (compensateAt e s).run = s.run := by unfold compensateAt; split <;> rfl
@[simp] theorem compensateAt_err (e : Bool) (s : State) : (compensateAt e s).err = s.err := by unfold compensateAt; split <;> rfl
@[simp] theorem compensateAt_target (e : Bool) (s : State) : (compensateAt e s).target = s.target := by unfold compensateAt; split <;> rfl
@[simp] theorem compensateAt_cfg (e : Bool) (s : State) : (compensateAt e s).cfg = s.cfg := by unfold compensateAt; split <;> rfl
@[simp] theorem compensateAt_host (e : Bool) (s : State) : (compensateAt e s).host = s.host := by unfold compensateAt; split <;> rfl
@[simp] theorem compensateAt_rsp (e : Bool) (s : State) : (compensateAt e s).rsp = s.rsp := by unfold compensateAt; split <;> rfl
@[simp] theorem compensateAt_lastEdge (e : Bool) (s : State) : (compensateAt e s).fsm.lastEdge = s.fsm.lastEdge := by
  unfold compensateAt; split <;> rfl
@[simp] theorem compensateAt_periodEst (e : Bool) (s : State) : (compensateAt e s).fsm.periodEst = s.fsm.periodEst := by
  unfold compensateAt; split <;> rfl
@[simp] theorem compensateAt_outlAcc (e : Bool) (s : State) : (compensateAt e s).fsm.outlAcc = s.fsm.outlAcc := by
  unfold compensateAt; split <;> rfl
@[simp] theorem compensateAt_outlCnt (e : Bool) (s : State) : (compensateAt e s).fsm.outlCnt = s.fsm.outlCnt := by
  unfold compensateAt; split <;> rfl
@[simp] theorem compensateAt_tick (e : Bool) (s : State) : (compensateAt e s).fsm.tick = s.fsm.tick := by
  unfold compensateAt; split <;> rfl
@[simp] theorem compensateAt_stage (e : Bool) (s : State) : (compensateAt e s).fsm.stage = s.fsm.stage := by
  unfold compensateAt; split <;> rfl
@[simp] theorem compensateAt_freq (e : Bool) (s : State) : (compensateAt e s).osc.freq = s.osc.freq := by
  unfold compensateAt compensate; dsimp only; split
  · split <;> rfl
  · rfl

/-- In direct mode the tracking of a sample is `direct_timing(edge)` and nothing else (45 R166 step 4, R192). -/
theorem trackVariant_direct (e : Bool) (s : State) (h : directMode s.cfg = true) :
    trackVariant e s =
      { s with fsm := (directTiming s.cfg s.fsm s.osc e).1, osc := (directTiming s.cfg s.fsm s.osc e).2 } := by
  unfold trackVariant; rw [h]; rfl

/-- In PLL mode the tracking of a sample is `pll(trig)` and nothing else (45 R166 step 3, R192). -/
theorem trackVariant_pll_mode (e : Bool) (s : State) (h : directMode s.cfg = false) :
    trackVariant e s =
      { s with
        pll := (pllStep s.cfg s.pll s.osc s.fsm.phOfs s.trg.trig).1
        osc := (pllStep s.cfg s.pll s.osc s.fsm.phOfs s.trg.trig).2 } := by
  unfold trackVariant; rw [h]; rfl

@[simp] theorem track_agc (e : Bool) (s : State) : (track e s).agc = s.agc := by simp [track]
@[simp] theorem track_trg (e : Bool) (s : State) : (track e s).trg = s.trg := by simp [track]
@[simp] theorem track_reg (e : Bool) (s : State) : (track e s).reg = s.reg := by simp [track]
@[simp] theorem track_out (e : Bool) (s : State) : (track e s).out = s.out := by simp [track]
@[simp] theorem track_run (e : Bool) (s : State) : (track e s).run = s.run := by simp [track]
@[simp] theorem track_err (e : Bool) (s : State) : (track e s).err = s.err := by simp [track]
@[simp] theorem track_target (e : Bool) (s : State) : (track e s).target = s.target := by simp [track]
@[simp] theorem track_cfg (e : Bool) (s : State) : (track e s).cfg = s.cfg := by simp [track]
@[simp] theorem track_host (e : Bool) (s : State) : (track e s).host = s.host := by simp [track]
@[simp] theorem track_rsp (e : Bool) (s : State) : (track e s).rsp = s.rsp := by simp [track]
@[simp] theorem finish_agc (w : Word → Int) (st : Stage) (s : State) : (finish w st s).agc = s.agc := rfl
@[simp] theorem finish_trg (w : Word → Int) (st : Stage) (s : State) : (finish w st s).trg = s.trg := rfl
@[simp] theorem finish_pll (w : Word → Int) (st : Stage) (s : State) : (finish w st s).pll = s.pll := rfl
@[simp] theorem finish_reg (w : Word → Int) (st : Stage) (s : State) : (finish w st s).reg = s.reg := rfl
@[simp] theorem finish_run (w : Word → Int) (st : Stage) (s : State) : (finish w st s).run = s.run := rfl
@[simp] theorem finish_err (w : Word → Int) (st : Stage) (s : State) : (finish w st s).err = s.err := rfl
@[simp] theorem finish_target (w : Word → Int) (st : Stage) (s : State) : (finish w st s).target = s.target := rfl
@[simp] theorem finish_cfg (w : Word → Int) (st : Stage) (s : State) : (finish w st s).cfg = s.cfg := rfl
@[simp] theorem finish_host (w : Word → Int) (st : Stage) (s : State) : (finish w st s).host = s.host := rfl
@[simp] theorem finish_rsp (w : Word → Int) (st : Stage) (s : State) : (finish w st s).rsp = s.rsp := rfl
@[simp] theorem finish_osc (w : Word → Int) (st : Stage) (s : State) : (finish w st s).osc = oscAdvance s.osc := rfl
@[simp] theorem finish_fsm (w : Word → Int) (st : Stage) (s : State) :
    (finish w st s).fsm = { s.fsm with stage := st, tick := s.fsm.tick + 1 } := rfl

@[simp] theorem sampleTrack_agc (st : Stage) (e : Bool) (s : State) : (sampleTrack st e s).agc = s.agc := by cases st <;> simp [sampleTrack]
@[simp] theorem sampleTrack_trg (st : Stage) (e : Bool) (s : State) : (sampleTrack st e s).trg = s.trg := by cases st <;> simp [sampleTrack]
@[simp] theorem sampleTrack_reg (st : Stage) (e : Bool) (s : State) : (sampleTrack st e s).reg = s.reg := by cases st <;> simp [sampleTrack]
@[simp] theorem sampleTrack_out (st : Stage) (e : Bool) (s : State) : (sampleTrack st e s).out = s.out := by cases st <;> simp [sampleTrack]
@[simp] theorem sampleTrack_run (st : Stage) (e : Bool) (s : State) : (sampleTrack st e s).run = s.run := by cases st <;> simp [sampleTrack]
@[simp] theorem sampleTrack_err (st : Stage) (e : Bool) (s : State) : (sampleTrack st e s).err = s.err := by cases st <;> simp [sampleTrack]
@[simp] theorem sampleTrack_target (st : Stage) (e : Bool) (s : State) : (sampleTrack st e s).target = s.target := by cases st <;> simp [sampleTrack]
@[simp] theorem sampleTrack_cfg (st : Stage) (e : Bool) (s : State) : (sampleTrack st e s).cfg = s.cfg := by cases st <;> simp [sampleTrack]
@[simp] theorem sampleTrack_host (st : Stage) (e : Bool) (s : State) : (sampleTrack st e s).host = s.host := by cases st <;> simp [sampleTrack]
@[simp] theorem sampleTrack_rsp (st : Stage) (e : Bool) (s : State) : (sampleTrack st e s).rsp = s.rsp := by cases st <;> simp [sampleTrack]
@[simp] theorem sampleExit_agc (w : Word → Int) (st : Stage) (e : Bool) (s : State) : (sampleExit w st e s).agc = s.agc := by
  unfold sampleExit; dsimp only; split <;> [rfl; (split <;> rfl)]
@[simp] theorem sampleExit_trg (w : Word → Int) (st : Stage) (e : Bool) (s : State) : (sampleExit w st e s).trg = s.trg := by
  unfold sampleExit; dsimp only; split <;> [rfl; (split <;> rfl)]
@[simp] theorem sampleExit_pll (w : Word → Int) (st : Stage) (e : Bool) (s : State) : (sampleExit w st e s).pll = s.pll := by
  unfold sampleExit; dsimp only; split <;> [rfl; (split <;> rfl)]
@[simp] theorem sampleExit_reg (w : Word → Int) (st : Stage) (e : Bool) (s : State) : (sampleExit w st e s).reg = s.reg := by
  unfold sampleExit; dsimp only; split <;> [rfl; (split <;> rfl)]
@[simp] theorem sampleExit_run (w : Word → Int) (st : Stage) (e : Bool) (s : State) : (sampleExit w st e s).run = s.run := by
  unfold sampleExit; dsimp only; split <;> [rfl; (split <;> rfl)]
@[simp] theorem sampleExit_err (w : Word → Int) (st : Stage) (e : Bool) (s : State) : (sampleExit w st e s).err = s.err := by
  unfold sampleExit; dsimp only; split <;> [rfl; (split <;> rfl)]
@[simp] theorem sampleExit_target (w : Word → Int) (st : Stage) (e : Bool) (s : State) : (sampleExit w st e s).target = s.target := by
  unfold sampleExit; dsimp only; split <;> [rfl; (split <;> rfl)]
@[simp] theorem sampleExit_cfg (w : Word → Int) (st : Stage) (e : Bool) (s : State) : (sampleExit w st e s).cfg = s.cfg := by
  unfold sampleExit; dsimp only; split <;> [rfl; (split <;> rfl)]
@[simp] theorem sampleExit_host (w : Word → Int) (st : Stage) (e : Bool) (s : State) : (sampleExit w st e s).host = s.host := by
  unfold sampleExit; dsimp only; split <;> [rfl; (split <;> rfl)]
@[simp] theorem sampleExit_rsp (w : Word → Int) (st : Stage) (e : Bool) (s : State) : (sampleExit w st e s).rsp = s.rsp := by
  unfold sampleExit; dsimp only; split <;> [rfl; (split <;> rfl)]

/-! ### The sequence, stage by stage -/

/-- The state a sample has after the conditioner and the trigger (45 R166 steps 1 and 3). -/
abbrev afterFront (x : Word) (s : State) : State := (frontEnd (s32 x) s).1

/-- The activity bit of a sample. -/
abbrev activity (x : Word) (s : State) : Bool := (agcStep s.cfg s.agc (s32 x)).1.gate

/-- The trigger edge of a sample. -/
abbrev edgeOf (x : Word) (s : State) : Bool := (frontEnd (s32 x) s).2

/-- The rest of a Waiting sample with `act = 1`, after its tracking. -/
theorem sampleExit_waiting (w : Word → Int) (s : State) :
    sampleExit w .waiting false s =
      if s.fsm.synced && oscAtOrigin s.osc then finish w .running s else finish w .waiting s := by
  simp [sampleExit]

theorem sampleExit_running (w : Word → Int) (e : Bool) (s : State) :
    sampleExit w .running e s = finish w .running s := by
  simp [sampleExit]

theorem sampleExit_entered (w : Word → Int) (s : State) :
    sampleExit w .releasing true s = finish w .releasing s := by
  simp [sampleExit]

theorem sampleExit_releasing (w : Word → Int) (s : State) :
    sampleExit w .releasing false s =
      if oscAtOrigin s.osc || s.osc.freq == 0 then emit 0 (enterStopped s) else finish w .releasing s := by
  simp [sampleExit]

theorem sample_stopped_silent (w : Word → Int) {x : Word} {s : State} (hs : s.fsm.stage = .stopped)
    (ha : activity x s = false) : sampleState w x s = emit 0 (afterFront x s) := by
  simp [sampleState, sampleEntry, hs, ha]

theorem sample_onset (w : Word → Int) {x : Word} {s : State} (hs : s.fsm.stage = .stopped)
    (ha : activity x s = true) :
    sampleState w x s = sampleExit w .waiting false (track (edgeOf x s) (onset (afterFront x s))) := by
  simp [sampleState, sampleEntry, sampleTrack, hs, ha]

theorem sample_waiting (w : Word → Int) {x : Word} {s : State} (hs : s.fsm.stage = .waiting)
    (ha : activity x s = true) :
    sampleState w x s = sampleExit w .waiting false (track (edgeOf x s) (afterFront x s)) := by
  simp [sampleState, sampleEntry, sampleTrack, hs, ha]

theorem sample_cutoff (w : Word → Int) {x : Word} {s : State} (hs : s.fsm.stage = .waiting)
    (ha : activity x s = false) : sampleState w x s = emit 0 (enterStopped (afterFront x s)) := by
  simp [sampleState, sampleEntry, hs, ha]

theorem sample_running (w : Word → Int) {x : Word} {s : State} (hs : s.fsm.stage = .running)
    (ha : activity x s = true) :
    sampleState w x s = finish w .running (track (edgeOf x s) (afterFront x s)) := by
  simp [sampleState, sampleEntry, sampleTrack, sampleExit_running, hs, ha]

theorem sample_release (w : Word → Int) {x : Word} {s : State} (hs : s.fsm.stage = .running)
    (ha : activity x s = false) : sampleState w x s = finish w .releasing (afterFront x s) := by
  simp [sampleState, sampleEntry, sampleTrack, sampleExit_entered, hs, ha]

theorem sample_releasing (w : Word → Int) {x : Word} {s : State} (hs : s.fsm.stage = .releasing) :
    sampleState w x s =
      if oscAtOrigin s.osc || s.osc.freq == 0 then emit 0 (enterStopped (afterFront x s))
      else finish w .releasing (afterFront x s) := by
  simp [sampleState, sampleEntry, sampleTrack, sampleExit_releasing, hs]

/-- Everything one `SAMPLE` can do (45 R167): one case per row of the transition relation. -/
theorem sampleState_cases (w : Word → Int) (x : Word) (s : State) :
    (s.fsm.stage = .stopped ∧ activity x s = false ∧ sampleState w x s = emit 0 (afterFront x s)) ∨
    (s.fsm.stage = .stopped ∧ activity x s = true ∧
      sampleState w x s = sampleExit w .waiting false (track (edgeOf x s) (onset (afterFront x s)))) ∨
    (s.fsm.stage = .waiting ∧ activity x s = false ∧
      sampleState w x s = emit 0 (enterStopped (afterFront x s))) ∨
    (s.fsm.stage = .waiting ∧ activity x s = true ∧
      sampleState w x s = sampleExit w .waiting false (track (edgeOf x s) (afterFront x s))) ∨
    (s.fsm.stage = .running ∧ activity x s = false ∧
      sampleState w x s = finish w .releasing (afterFront x s)) ∨
    (s.fsm.stage = .running ∧ activity x s = true ∧
      sampleState w x s = finish w .running (track (edgeOf x s) (afterFront x s))) ∨
    (s.fsm.stage = .releasing ∧ (oscAtOrigin s.osc || s.osc.freq == 0) = true ∧
      sampleState w x s = emit 0 (enterStopped (afterFront x s))) ∨
    (s.fsm.stage = .releasing ∧ (oscAtOrigin s.osc || s.osc.freq == 0) = false ∧
      sampleState w x s = finish w .releasing (afterFront x s)) := by
  cases hs : s.fsm.stage <;> cases ha : activity x s
  · simp [sample_stopped_silent w hs ha]
  · simp [sample_onset w hs ha]
  · simp [sample_cutoff w hs ha]
  · simp [sample_waiting w hs ha]
  · simp [sample_release w hs ha]
  · simp [sample_running w hs ha]
  all_goals
    rw [sample_releasing w hs]
    cases oscAtOrigin s.osc || s.osc.freq == 0 <;> simp

/-- The state a `SAMPLE` leaves in the unit registers it does not own (45 R166). -/
theorem sampleState_frame (w : Word → Int) (x : Word) (s : State) :
    (sampleState w x s).reg = s.reg ∧ (sampleState w x s).run = s.run ∧ (sampleState w x s).err = s.err ∧
    (sampleState w x s).target = s.target ∧ (sampleState w x s).cfg = s.cfg ∧
    (sampleState w x s).host = s.host ∧ (sampleState w x s).rsp = s.rsp ∧
    (sampleState w x s).agc = (afterFront x s).agc ∧ (sampleState w x s).trg = (afterFront x s).trg := by
  rcases sampleState_cases w x s with h | h | h | h | h | h | h | h <;> obtain ⟨-, -, h⟩ := h <;> rw [h] <;> simp

@[simp] theorem sampleState_reg (w : Word → Int) (x : Word) (s : State) : (sampleState w x s).reg = s.reg := (sampleState_frame w x s).1
@[simp] theorem sampleState_run (w : Word → Int) (x : Word) (s : State) : (sampleState w x s).run = s.run := (sampleState_frame w x s).2.1
@[simp] theorem sampleState_err (w : Word → Int) (x : Word) (s : State) : (sampleState w x s).err = s.err := (sampleState_frame w x s).2.2.1
@[simp] theorem sampleState_target (w : Word → Int) (x : Word) (s : State) : (sampleState w x s).target = s.target := (sampleState_frame w x s).2.2.2.1
@[simp] theorem sampleState_cfg (w : Word → Int) (x : Word) (s : State) : (sampleState w x s).cfg = s.cfg := (sampleState_frame w x s).2.2.2.2.1
@[simp] theorem sampleState_host (w : Word → Int) (x : Word) (s : State) : (sampleState w x s).host = s.host := (sampleState_frame w x s).2.2.2.2.2.1
@[simp] theorem sampleState_rsp (w : Word → Int) (x : Word) (s : State) : (sampleState w x s).rsp = s.rsp := (sampleState_frame w x s).2.2.2.2.2.2.1
@[simp] theorem sampleState_agc (w : Word → Int) (x : Word) (s : State) :
    (sampleState w x s).agc = (agcStep s.cfg s.agc (s32 x)).1 := (sampleState_frame w x s).2.2.2.2.2.2.2.1
@[simp] theorem sampleState_trg (w : Word → Int) (x : Word) (s : State) :
    (sampleState w x s).trg = (afterFront x s).trg := (sampleState_frame w x s).2.2.2.2.2.2.2.2

/-! ### What exec answers, command by command -/

theorem exec_sample (x : Word) (s : State) : exec (.sample x) s =
    needRun s (succeed (sampleState wave x s).out.out (sampleState wave x s)) := rfl

end Sys2Proof.Machine
end

