-- ==== Sys2Proof/Tests/Slice0.lean ====
section
/-! SUPPORT. The model's own tests: words written out from the encoding tables, a few vectors of `95_test_vectors.md` (each named in
its docstring), and for every statement of Certificates/Slice0/Obligations.lean that has hypotheses a concrete case that meets
them. -/

namespace Sys2Proof.Tests

open Sys2Proof.Machine

/-! ### Helpers -/

/-- `CFG_SMALL` of 95 section 2, in mode `m`. -/
def small (m : Word) : ConfigRegs where
  sps := 0x1F40
  latency := 2
  startPhase := 0
  mode := m
  dcA := 0
  lpALo := 0x01000000
  lpAHi := 0x01000000
  envAtt := 0x01000000
  envRel := 0x00800000
  gateLo := 0x00100000
  gateHi := 0x00400000
  agcGmax := 0x10000000
  trigDecay := 0
  trigSens := 0x00800000
  trigHyst := 0
  pllShifts := 0x1B1A
  perA := 0x00800000
  outlierN := 2
  syncShift := 1
  pidKp := 0x01000000
  pidKi := 0
  pidKd := 0
  pidDt := 0x00028F5C
  pidRate := 100
  maxGain := 0x01000000

/-- RUN mode right after the set up of 95 section 2 with `CFG_SMALL`. -/
def running (m : Word) : State := { State.reset with cfg := small m, run := true, target := 0x01000000 }

/-- RUN mode in a stage, with an envelope, a gate, a frequency and a phase. -/
def inStage (st : Stage) (env : Word) (gate : Bool) (freq phase : Word) : State :=
  { running 1 with
    agc := ⟨0, 0, env, gate⟩
    osc := ⟨freq, phase⟩
    fsm := { State.reset.fsm with stage := st, synced := true, tick := 9 } }

/-- A state with one word presented. -/
def presenting (w : Command) (s : State) : State := { s with host := [.command w] }

/-- The next state satisfies `p`; false of a fault and a refusal. -/
def nextIs (o : Host.Outcome State Fault Refusal) (p : State → Bool) : Bool :=
  match o with
  | .next t => p t
  | .fault _ => false
  | .refused _ => false

/-- The next state reads `v` at register index `k`. -/
def reads (k : BitVec 8) (v : Word) (t : State) : Bool := regRead t k == some v

/-- The response of the next state. -/
def responds (err : BitVec 4) (data : Word) (status : BitVec 8) (t : State) : Bool := t.rsp == some ⟨err, data, status⟩

theorem next_of_nextIs {o : Host.Outcome State Fault Refusal} {p : State → Bool} (h : nextIs o p = true) :
    ∃ t, o = .next t ∧ p t = true := by
  cases o with
  | next t => exact ⟨t, rfl, h⟩
  | fault f => cases f
  | refused r => cases h

/-! ### Well-formedness: words that no row of 30 R59 covers -/

theorem test_illformed_reserved_opcode : wordWellFormed 0x9F0000000001#48 = false := by decide
theorem test_illformed_nop_rsv : wordWellFormed 0x010000000000#48 = false := by decide
theorem test_illformed_nop_data : wordWellFormed 0x000000000001#48 = false := by decide
theorem test_illformed_sample_idx : wordWellFormed 0x100100000000#48 = false := by decide
theorem test_illformed_regulate_data : wordWellFormed 0x200000000001#48 = false := by decide
theorem test_illformed_settgt_idx : wordWellFormed 0x300100000000#48 = false := by decide
theorem test_illformed_wrcfg_rsv : wordWellFormed 0x4F0000000000#48 = false := by decide
theorem test_illformed_rdreg_data : wordWellFormed 0x504000000001#48 = false := by decide
theorem test_illformed_start_data : wordWellFormed 0x600000000001#48 = false := by decide
theorem test_illformed_rginit_idx : wordWellFormed 0x700100000000#48 = false := by decide
theorem test_illformed_reset_data : wordWellFormed 0x800000000001#48 = false := by decide
theorem test_wellformed_rows :
    ([0x000000000000#48, 0x1000FF800000#48, 0x200000000000#48, 0x300000800000#48, 0x40FFFFFFFFFF#48, 0x50FF00000000#48,
      0x600000000000#48, 0x700000000000#48, 0x800000000000#48].all wordWellFormed) = true := by decide

/-! ### Decoding: words written out from the fields `op[47:44] rsv[43:40] idx[39:32] data[31:0]` of 30 R57 -/

theorem test_decode_nop : decode 0x000000000000#48 = .command .nop := by decide
theorem test_decode_sample : decode 0x1000FF800000#48 = .command (.sample 0xFF800000#32) := by decide
theorem test_decode_regulate : decode 0x200000000000#48 = .command .regulate := by decide
theorem test_decode_settgt : decode 0x300000800000#48 = .command (.settgt 0x00800000#32) := by decide
theorem test_decode_wrcfg : decode 0x400A0019999A#48 = .command (.wrcfg 0x0A#8 0x0019999A#32) := by decide
theorem test_decode_rdreg : decode 0x504B00000000#48 = .command (.rdreg 0x4B#8) := by decide
theorem test_decode_start : decode 0x600000000000#48 = .command .start := by decide
theorem test_decode_rginit : decode 0x700000000000#48 = .command .rginit := by decide
theorem test_decode_reset : decode 0x800000000000#48 = .command .reset := by decide
theorem test_encode_words :
    encode (.sample 0xFF800000#32) = 0x1000FF800000#48 ∧ encode (.wrcfg 0x0A#8 0x0019999A#32) = 0x400A0019999A#48 ∧
    encode (.rdreg 0x4B#8) = 0x504B00000000#48 ∧ encode (.settgt 0x00800000#32) = 0x300000800000#48 := by decide

/-- 95 V47-2: opcode before field, and each field. -/
theorem test_decode_illegal :
    decode 0x9F0000000001#48 = .illegal .opcode ∧ decode 0xF00000000000#48 = .illegal .opcode ∧
    decode 0x010000000000#48 = .illegal .field ∧ decode 0x000100000000#48 = .illegal .field ∧
    decode 0x504000000001#48 = .illegal .field ∧ decode 0x4F0000000000#48 = .illegal .field := by decide

theorem test_table_word : decodeTableWord 48 0x400100000040 = some (.wrcfg 0x01#8 0x40#32) := by decide

/-- The word placed for the next step is run by it, as the first command after reset. -/
theorem test_fetch_word : nextIs (step (State.reset.withFetchWord 48 0x400100000040)) (reads 0x01 64) = true := by decide

/-! ### One step, command by command (vectors of 95) -/

/-- 95 P1 line 1. -/
theorem test_nop : nextIs (exec .nop State.reset) (responds 0 0 0) = true := by decide
/-- 95 P1 line 8. -/
theorem test_wrcfg : nextIs (exec (.wrcfg 0x01 64) State.reset) (reads 0x01 64) = true := by decide
/-- 95 P1 line 2. -/
theorem test_rdreg : nextIs (exec (.rdreg 0x4B) State.reset) (responds 0 8 0) = true := by decide
/-- 95 V47-1, all registers 0. -/
theorem test_start_refused : nextIs (exec .start State.reset) (responds 6 0xA63 0x80) = true := by decide
/-- 95 section 2: `CFG_SMALL` starts. -/
theorem test_start : nextIs (exec .start { State.reset with cfg := small 1 }) (responds 0 0 0x10) = true := by decide
/-- 95 P1 line 45. -/
theorem test_settgt : nextIs (exec (.settgt 0x00800000) State.reset) (reads 0x20 0x00800000) = true := by decide
/-- 95 P2 line 9. -/
theorem test_rginit :
    nextIs (exec .rginit { running 0 with reg := ⟨5, 6, 7⟩ }) (fun t => t.reg == ⟨0, 0, 0⟩) = true := by decide
/-- 95 P1 line 57. -/
theorem test_reset : nextIs (exec .reset { running 0 with err := 4 }) (responds 0 0 0) = true := by decide
/-- 95 V46-1. -/
theorem test_regulate :
    nextIs (exec .regulate { running 0 with
        target := 0x00800000
        agc := ⟨0, 0, 0x00400000, false⟩
        cfg := { small 0 with pidKp := 0x00800000, pidKi := 0x01000000, maxGain := 0x04000000 } })
      (fun t => responds 0 0x0020A3D7 0x10 t && t.reg == ⟨0x0000A3D7, 0x00400000, 0x0020A3D7⟩) = true := by decide
/-- 95 V46-3, the third call: the derivative sees the error fall. -/
theorem test_regulate_derivative :
    nextIs (exec .regulate { running 0 with
        target := 0x00800000
        agc := ⟨0, 0, 0x00600000, false⟩
        reg := ⟨0x000147AE, 0x00400000, 0x00064000⟩
        cfg := { small 0 with pidKp := 0, pidKd := 0x00004000, maxGain := 0x04000000 } })
      (fun t => responds 0 0xFFFCE000 0x10 t && t.reg == ⟨0x00019999, 0x00200000, 0x00032000⟩) = true := by decide
/-- 95 V45-6, sample 1: onset, phase setting and Running in one sample. -/
theorem test_sample_onset :
    nextIs (execSampleWith waveTri 0x00800000 { running 0 with
        cfg := { small 0 with startPhase := 0xE4000000 }
        reg := ⟨0x00028F5C, 0x01000000, 0x01000000⟩
        fsm := { State.reset.fsm with tick := 1 } })
      (fun t => responds 0 0 0x3E t && t.osc == ⟨0x0C000000, 0x0C000000⟩ && reads 0x4B 0x3D t && t.fsm.phOfs == 0) =
      true := by decide
/-- 95 V45-4, sample 28: Running without activity. -/
theorem test_sample_release :
    nextIs (execSampleWith waveTri 0 { running 1 with
        agc := ⟨0, 0, 0x00100000, true⟩
        trg := ⟨0x01000000, 0x01000000, false, true, false⟩
        osc := ⟨0x20000000, 0xA0000000⟩
        reg := ⟨0x00028F5C, 0x01000000, 0x01000000⟩
        fsm := ⟨.running, true, 28, 17, 0x00080000, 0, 0, 0x40000000⟩ })
      (fun t => responds 0 0xFF800000 0x33 t && t.osc == ⟨0x20000000, 0xC0000000⟩ && t.fsm.periodEst == 0x00080000) =
      true := by decide

/-! ### The units (vectors of 95 sections 3.1 to 3.6) -/

/-- 95 V40-3 to V40-5. -/
theorem test_arith :
    mulq (-3) 0x00800000 = -2 ∧ mulq (-2147483648) 2147483647 = -2147483648 ∧ recipq 0x000CCCCD = 0x13FFFFB0 ∧
    lp1 0 3 0x00400000 = 0 ∧ lp1 3 0 0x00400000 = 2 ∧ lp1 (-2147483648) 2147483647 0x01000000 = -1 ∧
    subq 0 (-2147483648) = 2147483647 ∧ shr (-5) 2 = -2 := by decide

/-- 95 V41-1, V41-4 and V41-5. -/
theorem test_oscillator :
    oscAdvance ⟨0x20, 0xFFFFFFF0⟩ = ⟨0x20, 0x10⟩ ∧
    (oscSyncPhase 2 0x10000000 ⟨0, 0xF0000000⟩).phase = 0xF8000000 ∧
    (oscSyncPhase 1 0x80000000 ⟨0, 0⟩).phase = 0xC0000000 ∧ (oscSyncPhase 2 0xFD ⟨0, 0x100⟩).phase = 0xFF ∧
    waveTri 0x12345678 = 0x0048D159 ∧ waveTri 0xBFFFFFFF = -0x00FFFFFF ∧ waveTri 0x40000000 = 0x01000000 := by decide

/-- 95 V42-1 call 1, and V42-3 calls 1, 2 and 8. -/
theorem test_conditioner :
    agcStep { small 0 with dcA := 0x00400000, lpALo := 0x00200000 } ⟨0, 0, 0, false⟩ 0x01000000 =
      (⟨0x00400000, 0x00180000, 0x00180000, false⟩, 0) ∧
    (agcStep { small 0 with envRel := 0x01000000 } ⟨0, 0, 0, false⟩ 0x00400000).1.gate = false ∧
    agcStep { small 0 with envRel := 0x01000000 } ⟨0, 0x00400000, 0x00400000, false⟩ 0x00400001 =
      (⟨0, 0x00400001, 0x00400001, true⟩, 0x00FFFFFF) ∧
    agcStep { small 0 with envRel := 0x01000000 } ⟨0, 0x00400000, 0x00400000, false⟩ (-0x00500000) =
      (⟨0, 0xFFB00000, 0x00500000, true⟩, -0x01000000) := by decide

/-- 95 V43-2 calls 1, 9 and 12. -/
theorem test_trigger :
    let c := { small 0 with trigDecay := 0x00100000, trigSens := 0x00C00000, trigHyst := 0x00040000 }
    triggerStep c ⟨0, 0, false, false, false⟩ 0x00800000 true = (⟨0x00800000, 0, true, false, true⟩, true) ∧
    triggerStep c ⟨0x00B964F0, 0x00F00000, false, false, false⟩ (-0x00F80000) true =
      (⟨0x00ADCEA1, 0x00F80000, false, true, false⟩, false) ∧
    triggerStep c ⟨0x01000000, 0x00D9F800, true, false, true⟩ 0x01000000 false =
      (⟨0x01000000, 0x00CC5880, true, false, false⟩, false) := by decide

/-- 95 V44-3 rows 1, 6 and 9, with the latches of V44-2 that give the error. -/
theorem test_pll :
    let c := { small 0 with pllShifts := 0x120E }
    pllStep c ⟨false, false, false, true, 0⟩ ⟨0x01000000, 0⟩ 0 true =
      (⟨true, false, true, true, -1⟩, ⟨0x01044000, 0⟩) ∧
    (pllStep c ⟨true, false, true, true, 1⟩ ⟨0x01000000, 0⟩ 0 true).2.freq = 0x01084000 ∧
    (pllStep c ⟨true, false, true, true, 0⟩ ⟨0x80000000, 0⟩ 0 true).2.freq = 0x80000000 := by decide

/-- 95 V45-8 calls 2, 5, 9 and 17, and V45-10 row 2. -/
theorem test_timing :
    let c := { small 1 with perA := 0x00400000, outlierN := 3 }
    let f := State.reset.fsm
    measurePeriod c 184 { f with periodEst := 0x00B60000 } ⟨0, 7⟩ =
      ({ f with periodEst := 0x00B68000 }, ⟨0x016719F3, 7⟩) ∧
    (measurePeriod c 92 { f with periodEst := 0x00B5E000, outlAcc := 0x005B0000, outlCnt := 1 } ⟨0, 7⟩).1 =
      { f with periodEst := 0x00B5E000, outlAcc := 0x005B8000, outlCnt := 2 } ∧
    measurePeriod c 91 { f with periodEst := 0x00B62800, outlAcc := 0x005C0000, outlCnt := 2 } ⟨0, 7⟩ =
      ({ f with periodEst := 0x005B8000 }, ⟨0x02CC3D8D, 7⟩) ∧
    (measurePeriod c 1 { f with periodEst := 0xFFFF0000, outlAcc := 0x00010000, outlCnt := 2 } ⟨0, 7⟩).2.freq =
      0x80000000 ∧
    targetPhase { c with latency := 400 } ⟨0x01681681, 0⟩ 182 = 0x32A32A6E := by decide

/-! ### The text form (30 R64, R65; 95 sections 3.8 and 4 for the words) -/

/-- What a line says. -/
def asm (s : String) : AsmLine := assembleLine s.toList

theorem test_assembler :
    asm "SAMPLE q(-0.5) ; half" = .command (.sample 0xFF800000#32) ∧ asm "WRCFG CFG_LATENCY, 64" = .command (.wrcfg 1#8 64#32) ∧
    asm "SETTGT -1" = .command (.settgt 0xFFFFFFFF#32) ∧ asm "RDREG 0x4B" = .command (.rdreg 0x4B#8) ∧
    asm "; nothing" = .blank ∧ asm "NOP 1" = .malformed := by decide

theorem test_pseudo_commands :
    asm "RDSTAT" = asm "RDREG 0x40" ∧ asm "RDOUT" = asm "RDREG 0x54" ∧ asm "RDENV" = asm "RDREG 0x47" ∧
    asm "RDENV" = .command (.rdreg 0x47#8) := by decide

/-! ### Witnesses: a concrete case that meets the hypotheses of each statement, clause by clause -/

/-- Taken apart: the host list of a presented word. -/
theorem presenting_host (w : Command) (s : State) : (presenting w s).host = [.command w] := rfl

theorem witness_EncodeInvertsDecode : decode 0x40FFFFFFFFFF#48 = .command (.wrcfg 0xFF#8 0xFFFFFFFF#32) := by decide

theorem witness_DecodeFollowsOpcodeMap :
    ∃ r ∈ opcodeRows, r.covers 0x40FFFFFFFFFF#48 = true ∧ r.covers 0x410000000000#48 = false := by decide

/-- The lowest and the highest reserved opcode; the highest legal one is not among them. -/
theorem witness_ReservedOpcodeRaisesErrOpcode :
    (presenting 0x900000000000#48 State.reset).host = [.command 0x900000000000#48] ∧
    9 ≤ (0x900000000000#48).toNat / 2 ^ 44 ∧ 9 ≤ (0xFFFFFFFFFFFF#48).toNat / 2 ^ 44 ∧
    ¬9 ≤ (0x8FFFFFFFFFFF#48).toNat / 2 ^ 44 := ⟨rfl, by decide, by decide, by decide⟩

/-- One word for each of the three fields, at opcodes 8, 6 and 5. -/
theorem witness_NonzeroUnusedFieldRaisesErrField :
    (presenting 0x810000000000#48 State.reset).host = [.command 0x810000000000#48] ∧
    (0x810000000000#48).toNat / 2 ^ 44 ≤ 8 ∧ (0x810000000000#48).toNat / 2 ^ 40 % 16 ≠ 0 ∧
    (0x600100000000#48).toNat / 2 ^ 32 % 256 ≠ 0 ∧ (0x600100000000#48).toNat / 2 ^ 44 = 6 ∧
    (0x500000000001#48).toNat % 2 ^ 32 ≠ 0 ∧ (0x500000000001#48).toNat / 2 ^ 44 = 5 :=
  ⟨rfl, by decide, by decide, by decide, by decide, by decide, by decide⟩

theorem witness_StepRunsDecodedCommand :
    (presenting 0x400100000040#48 State.reset).host = [.command 0x400100000040#48] ∧
    decode 0x400100000040#48 = .command (.wrcfg 0x01#8 0x40#32) := ⟨rfl, by decide⟩

theorem witness_StepWaitsOrResets :
    State.reset.host = [] ∧ ({ running 1 with host := [.rst] } : State).host = [.rst] := ⟨rfl, rfl⟩

theorem witness_FirstFailedCheckDecides :
    (presenting 0x401900000001#48 State.reset).host = [.command 0x401900000001#48] := rfl

/-- Codes 5 and 6; then a later command, `rst` and `RESET` with `ERR` set. -/
theorem witness_ErrorChangesOnlyErr :
    nextIs (step (presenting 0x100000800000#48 State.reset)) (responds 5 0 0x80) = true ∧
    nextIs (step (presenting 0x600000000000#48 State.reset)) (responds 6 0xA63 0x80) = true ∧
    nextIs (step (presenting 0x000000000000#48 { State.reset with err := 5 })) (fun t => t.err == 5) = true ∧
    nextIs (step { State.reset with err := 5, host := [.rst] }) (fun t => t.err == 0) = true ∧
    nextIs (step (presenting 0x800000000000#48 { State.reset with err := 5 })) (fun t => t.err == 0) = true := by decide

/-- Every code an instruction answers, at the indices next to the mapped ones. -/
theorem witness_ErrorCodesNameTheirCause :
    nextIs (exec (.wrcfg 0x18 0) State.reset) (responds 0 0 0) = true ∧
    nextIs (exec (.wrcfg 0x19 0) State.reset) (responds 3 0 0x80) = true ∧
    nextIs (exec (.rdreg 0x56) State.reset) (responds 3 0 0x80) = true ∧
    nextIs (exec .start (running 1)) (responds 4 0 0x90) = true ∧
    nextIs (exec (.wrcfg 0x19 0) (running 1)) (responds 4 0 0x90) = true ∧
    nextIs (exec .regulate State.reset) (responds 5 0 0x80) = true ∧
    nextIs (exec .start State.reset) (responds 6 0xA63 0x80) = true := by decide

theorem witness_ModesPermitTheirCommands :
    State.reset.run = false ∧ (running 1).run = true ∧
    nextIs (exec .start (running 1)) (responds 4 0 0x90) = true ∧
    nextIs (exec .rginit State.reset) (responds 5 0 0x80) = true ∧
    nextIs (exec (.wrcfg 0x19 0) State.reset) (responds 3 0 0x80) = true ∧
    nextIs (exec .rginit (running 1)) (responds 0 0 0x10) = true := by decide

/-- Into RUN mode, and out of it both ways. -/
theorem witness_OnlyStartAndResetChangeMode :
    nextIs (step (presenting 0x600000000000#48 { State.reset with cfg := small 1 })) (fun t => t.run) = true ∧
    nextIs (step { running 1 with host := [.rst] }) (fun t => !t.run) = true ∧
    nextIs (step (presenting 0x800000000000#48 (running 1))) (fun t => !t.run) = true := by decide

theorem witness_ConfigurationIsFixedInRun :
    nextIs (step (presenting 0x400100000041#48 (running 1))) (fun t => t.run && t.cfg == small 1) = true ∧
    nextIs (step (presenting 0x400100000041#48 State.reset)) (fun t => t.cfg != State.reset.cfg) = true ∧
    nextIs (step { running 1 with host := [.rst] }) (fun t => t.cfg != small 1) = true := by decide

theorem witness_NopChangesNothing : (0x000000000001#48).toNat / 2 ^ 44 = 0 ∧ 0x000000000001#48 ≠ 0#48 := by decide

/-- The last configuration index and the first above it, in both modes. -/
theorem witness_WrcfgStoresOneRegister :
    State.reset.run = false ∧ (0x18#8).toNat ≤ 0x18 ∧ 0x18 < (0x19#8).toNat ∧ (running 1).run = true ∧
    0x17#8 ≠ 0x18#8 := by decide

/-- Both ends of each mapped range, and the unmapped indices next to them. -/
theorem witness_RdregAnswersTheRegister :
    ([0x00#8, 0x18#8, 0x20#8, 0x40#8, 0x55#8].all (fun k => (regRead State.reset k).isSome)) = true ∧
    ([0x19#8, 0x1F#8, 0x21#8, 0x3F#8, 0x56#8, 0xFF#8].all (fun k => !(regRead State.reset k).isSome)) = true := by decide

theorem witness_RegisterMapIsTheTable : (0x18#8).toNat ≤ 0x18 := by decide

theorem witness_StatusIsComputedFromTheState :
    nextIs (exec .nop { running 1 with osc := ⟨0x20, 0x1F⟩, err := 4 }) (responds 0 0 0xD0) = true ∧
    nextIs (exec .nop { running 1 with osc := ⟨0x20, 0x20⟩ }) (responds 0 0 0x10) = true := by decide

theorem witness_BadConfigIsTheBitmap :
    (badConfig State.reset.cfg).getLsbD 0 = true ∧ badConfig { small 1 with syncShift := 32 } = 0x400 ∧
    badConfig { small 1 with syncShift := 31 } = 0 ∧ badConfig { small 1 with dcA := 0x01000001 } = 8 ∧
    badConfig { small 1 with dcA := 0x01000000 } = 0 ∧ 13 ≤ 13 := by decide

theorem witness_StartLocksOrReports :
    State.reset.run = false ∧ badConfig (small 1) = 0 ∧ badConfig State.reset.cfg ≠ 0 ∧ (running 1).run = true := by decide

theorem witness_ResetValuesAreZeroButPrevRef :
    0x55#8 ≠ 0x4B#8 ∧ regRead State.reset 0x55 = some 0 ∧ regRead State.reset 0x56 = none := by decide

theorem witness_RginitClearsTheRegulator : (running 1).run = true ∧ State.reset.run = false := ⟨rfl, rfl⟩

/-- Both modes, and the least legal `MAX_GAIN`. -/
theorem witness_RegulateFollowsThePid :
    (running 1).run = true ∧ State.reset.run = false ∧ 0 ≤ s32 ({ small 1 with maxGain := 0 } : ConfigRegs).maxGain := by
  decide

/-- The envelope equal to the target, and the gain at its maximum. -/
theorem witness_GainNeverFallsBelowTarget :
    let s := { running 1 with agc := ⟨0, 0, 0x01000000, true⟩, reg := ⟨0, 0, 0x01000000⟩ }
    s.run = true ∧ 0 ≤ s32 s.cfg.pidKp ∧ 0 ≤ s32 s.cfg.pidKi ∧ s.cfg.pidKd = 0 ∧ 0 ≤ s32 s.cfg.pidDt ∧
    s32 s.agc.env ≤ s32 s.target ∧ 0 ≤ s32 s.reg.integ ∧ 0 ≤ s32 s.reg.gain ∧ s32 s.reg.gain ≤ s32 s.cfg.maxGain ∧
    nextIs (exec .regulate s) (fun _ => true) = true := by decide

theorem witness_SampleCompletesAndAnswersOut : (running 1).run = true ∧ State.reset.run = false := ⟨rfl, rfl⟩

theorem witness_OnlyExecutedSamplesCount :
    nextIs (exec (.sample 0) { running 1 with fsm := { State.reset.fsm with tick := 0xFFFFFFFF } }) (reads 0x42 0) = true ∧
    nextIs (exec (.sample 0) State.reset) (reads 0x42 0) = true := by decide

/-- Each row of 45 R167; the phases stand at `FREQ - 1` and at `FREQ`. -/
theorem witness_StageTransitionsAreTheTable :
    nextIs (exec (.sample 0) (inStage .stopped 0 false 0 0)) (fun t => !t.agc.gate && t.fsm.stage == .stopped) = true ∧
    nextIs (exec (.sample 0) (inStage .waiting 0x00100000 true 0 0)) (fun t => !t.agc.gate && t.fsm.stage == .stopped) =
      true ∧
    nextIs (exec (.sample 0) (inStage .waiting 0x00200000 true 0x20 0x1F)) (fun t => t.agc.gate && t.fsm.stage == .running) =
      true ∧
    nextIs (exec (.sample 0) (inStage .waiting 0x00200000 true 0x20 0x20)) (fun t => t.agc.gate && t.fsm.stage == .waiting) =
      true ∧
    nextIs (exec (.sample 0) (inStage .running 0x00100000 true 0x20 0x20)) (fun t => !t.agc.gate && t.fsm.stage == .releasing) =
      true ∧
    nextIs (exec (.sample 0) (inStage .running 0x00200000 true 0x20 0x20)) (fun t => t.agc.gate && t.fsm.stage == .running) =
      true ∧
    nextIs (exec (.sample 0) (inStage .releasing 0 false 0x20 0x1F)) (fun t => t.fsm.stage == .stopped) = true ∧
    nextIs (exec (.sample 0) (inStage .releasing 0 false 0 5)) (fun t => t.fsm.stage == .stopped) = true ∧
    nextIs (exec (.sample 0) (inStage .releasing 0 false 0x20 0x20)) (fun t => t.fsm.stage == .releasing) = true ∧
    nextIs (exec .nop (inStage .running 0 false 0 0)) (fun t => t.fsm.stage == .running) = true := by decide

theorem witness_OutputFollowsTheStage :
    nextIs (exec (.sample 0) (inStage .stopped 0 false 0 0)) (fun t => t.fsm.stage == .stopped) = true ∧
    nextIs (exec (.sample 0) (inStage .running 0x00200000 true 0x20 0x20)) (fun t => t.fsm.stage == .running) = true := by
  decide

theorem witness_StoppedSampleWithoutActivity :
    (running 1).run = true ∧ (running 1).fsm.stage = .stopped ∧
    (agcStep (running 1).cfg (running 1).agc (s32 0)).1.gate = false := by decide

/-- The three ways into Stopped: the cutoff, the last phase below `FREQ`, and standstill. -/
theorem witness_EntryToStoppedClears :
    (let s := inStage .waiting 0x00100000 true 0x20 0x20
     s.run = true ∧ s.fsm.stage = .waiting ∧ (agcStep s.cfg s.agc (s32 0)).1.gate = false) ∧
    (let s := inStage .releasing 0 false 0x20 0x1F
     s.run = true ∧ s.fsm.stage = .releasing ∧ s.osc.phase.toNat < s.osc.freq.toNat) ∧
    (let s := inStage .releasing 0 false 0 5
     s.run = true ∧ s.fsm.stage = .releasing ∧ s.osc.freq = 0) := by decide

theorem witness_ReleasingSoundsOn :
    (let s := inStage .running 0x00100000 true 0x20 0x20
     s.run = true ∧ s.fsm.stage = .running ∧ (agcStep s.cfg s.agc (s32 0)).1.gate = false) ∧
    (let s := inStage .releasing 0 false 0x20 0x20
     s.run = true ∧ s.fsm.stage = .releasing ∧ ¬(s.osc.phase.toNat < s.osc.freq.toNat ∨ s.osc.freq = 0)) := by decide

/-- An edge with a period of one sample, the first and a later one; and a tracked sample without an edge. -/
theorem witness_PhaseIsCompensatedAtEdges :
    (let s := { inStage .waiting 0x00800000 true 0x20 0x20 with
        fsm := ⟨.waiting, false, 9, 8, 0x00010000, 0, 0, 0⟩ }
     nextIs (exec (.sample 0x00800000) s)
       (fun t => t.agc.gate && t.trg.trig && !s.trg.trig && t.fsm.periodEst == 0x00010000 && t.fsm.synced) = true) ∧
    (let s := { inStage .waiting 0x00800000 true 0x20 0x20 with
        fsm := ⟨.waiting, true, 9, 8, 0x00010000, 0, 0, 0⟩ }
     nextIs (exec (.sample 0x00800000) s)
       (fun t => t.agc.gate && t.trg.trig && !s.trg.trig && t.fsm.periodEst == 0x00010000) = true) ∧
    nextIs (exec (.sample 0) (inStage .waiting 0x00200000 true 0x20 0x20)) (fun t => t.agc.gate && !t.trg.trig) = true := by
  decide

/-- An onset in direct mode; a Stopped, a Waiting and an onset sample in PLL mode; a direct-mode sample with an edge that
seeds the period of 4 samples, and one without an edge. -/
theorem witness_TrackingVariantsStayApart :
    nextIs (exec (.sample 0x00800000) { running 1 with pll := ⟨true, false, true, false, 1⟩ })
      (fun t => t.agc.gate && t.pll == State.reset.pll) = true ∧
    nextIs (exec (.sample 0) (running 0)) (fun t => t.fsm.stage == .stopped) = true ∧
    nextIs (exec (.sample 0) { inStage .waiting 0x00200000 true 0x20 0x20 with cfg := small 0 })
      (fun t => t.agc.gate && t.fsm.stage != .stopped) = true ∧
    nextIs (exec (.sample 0x00800000) (running 0)) (fun t => t.agc.gate) = true ∧
    nextIs (exec (.sample 0x00800000)
        { running 1 with fsm := { State.reset.fsm with stage := .waiting, tick := 9, lastEdge := 5 } })
      (fun t => t.agc.gate && t.trg.trig && t.fsm.lastEdge == 9 && t.fsm.periodEst == 0x00040000 &&
        t.osc.freq == 0x40000000) = true ∧
    nextIs (exec (.sample 0) (inStage .waiting 0x00800000 true 0x20 0x20))
      (fun t => t.agc.gate && !t.trg.trig && t.fsm.lastEdge == 0 && t.osc.freq == 0x20) = true := by decide

theorem witness_ConditionerFollowsItsSteps : nextIs (exec (.sample 0x00800000) (running 0)) (fun t => t.agc.gate) = true := by
  decide

/-- One above `GATE_HI`, both thresholds themselves, one below `GATE_LO`. -/
theorem witness_GateIsHysteretic :
    nextIs (exec (.sample 0x00400001) (running 0)) (fun t => decide (s32 t.agc.env > s32 (small 0).gateHi)) = true ∧
    nextIs (exec (.sample 0x00400000) (running 0)) (fun t => decide (s32 t.agc.env = s32 (small 0).gateHi)) = true ∧
    nextIs (exec (.sample 0) (inStage .stopped 0x00200000 true 0 0))
      (fun t => decide (s32 t.agc.env = s32 (small 0).gateLo)) = true ∧
    nextIs (exec (.sample 0) (inStage .stopped 0x001FFFFE true 0 0))
      (fun t => decide (s32 t.agc.env < s32 (small 0).gateLo)) = true := by decide

/-- `CFG_SMALL` in direct mode is legal. -/
theorem small_legal : LegalConfig (small 1) where
  sps := by decide
  latency := by decide
  mode := by decide
  dcA := by unfold LegalCoeff; decide
  lpALo := by unfold LegalCoeff; decide
  lpAHi := by unfold LegalCoeff; decide
  lpOrder := by decide
  envAtt := by unfold LegalCoeff; decide
  envRel := by unfold LegalCoeff; decide
  gateLo := by decide
  gateOrder := by decide
  agcGmax := by decide
  trigDecay := by unfold LegalCoeff; decide
  trigSens := by unfold LegalCoeff; decide
  trigHyst := by decide
  pllShifts := by decide
  perA := by unfold LegalCoeff; decide
  outlierN := by decide
  syncShift := by decide
  pidDt := by decide
  pidRate := by decide
  maxGain := by decide

theorem witness_EnvelopeStaysNonnegative :
    LegalConfig (small 1) ∧ 0 ≤ s32 (0 : Word) ∧ (agcStep (small 1) ⟨0, 0, 0, false⟩ 0x00800000).1.gate = true :=
  ⟨small_legal, by decide, by decide⟩

/-- The extreme inputs, and the three cases of the output state. -/
theorem witness_TriggerFollowsItsSteps :
    (-2147483648 : Int) ≤ -2147483648 ∧ (2147483647 : Int) ≤ 2147483647 ∧
    (triggerStep (small 0) ⟨0, 0, false, false, false⟩ (-2147483648) true).1.cmpn = true ∧
    (triggerStep (small 0) ⟨0, 0, false, false, false⟩ 2147483647 true).1.cmpp = true ∧
    (triggerStep (small 0) ⟨0, 0, false, false, true⟩ 0 true).1 = ⟨0, 0, false, false, true⟩ := by decide

theorem witness_FrontEndIgnoresTheRest :
    (running 1).run = true ∧ (inStage .stopped 0 false 5 5).run = true ∧
    (running 1).cfg = (inStage .stopped 0 false 5 5).cfg ∧ (running 1).agc = (inStage .stopped 0 false 5 5).agc ∧
    (running 1).trg = (inStage .stopped 0 false 5 5).trg ∧
    nextIs (exec (.sample 0x00800000) (running 1)) (fun t => t.agc.gate) = true ∧
    nextIs (exec (.sample 0x00800000) (inStage .stopped 0 false 5 5)) (fun t => t.agc.gate) = true := by decide

theorem witness_RegulatorReachesOnlyOut :
    (running 1).run = true ∧ nextIs (exec (.sample 0x00800000) (running 1)) (fun _ => true) = true := by decide

/-- The least and the greatest estimate of the rounding, and both sides of the PLL guard. -/
theorem witness_TrackedPeriodIsGuarded :
    (running 1).cfg.mode.getLsbD 0 = true ∧ (running 1).fsm.periodEst = 0 ∧ 65536 ≤ (0x00010000 : Word).toNat ∧
    (running 0).cfg.mode.getLsbD 0 = false ∧ (running 0).osc.freq = 0 ∧ (0x80000000 : Word) ≠ 0 ∧
    (0x80000000 : Word).toNat ≤ 2147483648 := by decide

/-- No edge, tick 0, a first edge, a second edge one tick later, and an edge at the recorded tick itself. -/
theorem witness_EdgesAreRecorded :
    let f := State.reset.fsm
    f.tick = 0 ∧ ({ f with tick := 1 } : FsmState).tick ≠ 0 ∧ ({ f with tick := 1 } : FsmState).lastEdge = 0 ∧
    directTiming (small 1) { f with tick := 1 } ⟨0, 0⟩ true = ({ f with tick := 1, lastEdge := 1 }, ⟨0, 0⟩) ∧
    directTiming (small 1) { f with tick := 2, lastEdge := 1 } ⟨0, 0⟩ true =
      ({ f with tick := 2, lastEdge := 2, periodEst := 0x00010000 }, ⟨0x80000000, 0⟩) ∧
    directTiming (small 1) { f with tick := 2, lastEdge := 2 } ⟨0, 0⟩ true = ({ f with tick := 2, lastEdge := 2 }, ⟨0, 0⟩) := by
  decide

/-- Seeding; the ends of the band and the readings next to them (95 V45-7); an outlier short of the count and at it. -/
theorem witness_MeasureFollowsItsSteps :
    0 < 1 ∧ 0 ≤ s32 (small 1).perA ∧ s32 (small 1).perA ≤ 16777216 ∧ (0 : BitVec 8).toNat < (small 1).outlierN.toNat ∧
    (1 : BitVec 8).toNat < (small 1).outlierN.toNat ∧ (small 1).outlierN.toNat ≤ 255 ∧
    65536 ≤ (0x00B60000 : Word).toNat ∧ 65536 ≤ (0x00AB0000 : Word).toNat ∧
    inBand 0x00B60000 (172 * 65536) = true ∧ inBand 0x00B60000 (192 * 65536) = true ∧
    inBand 0x00B60000 (171 * 65536) = false ∧ inBand 0x00B60000 (193 * 65536) = false := by decide

theorem witness_MulqIsTheFlooredProduct :
    (-2147483648 : Int) ≤ -2147483648 ∧ (-2147483648 : Int) ≤ 2147483647 ∧ (0 : Int) ≤ 16777216 ∧
    (16777216 : Int) ≤ 16777216 := by decide

theorem witness_RecipqIsTheFlooredReciprocal : (0 : Int) ≤ 0 ∧ (0 : Int) < 1 := by decide

/-- The extreme state and input with `ONE`; a stalling step up; a step down. -/
theorem witness_OnePoleStaysBetween :
    (-2147483648 : Int) ≤ 2147483647 ∧ (0 : Int) ≤ 16777216 ∧
    -2147483648 ≤ (2147483647 : Int) - 0 ∧ (2147483647 : Int) - 0 ≤ 2147483647 ∧
    (0 : Int) ≤ 3 ∧ (0x00400000 : Int) * (3 - 0) < 16777216 ∧ (0 : Int) < 3 ∧ (0 : Int) < 0x00400000 := by decide

theorem witness_WrapAndSignedReading : (-2147483648 : Int) ≤ -2147483648 ∧ (-2147483648 : Int) ≤ 2147483647 := by decide

/-- A tie, `q(2^-25)`, and the first number above the range, `q(128)`. -/
theorem witness_QWordRoundsToNearest :
    0 < 2 ^ 25 ∧ qWord true 1 (2 ^ 25) = some 0xFFFFFFFF ∧ qWord false 128 1 = none ∧ qWord true 128 1 = some 0x80000000 := by
  decide

/-- RUN mode right after the set up is sound. -/
theorem running_sound : Invariant (running 1) where
  errCode := by show (0 : BitVec 4).toNat ≤ 6; decide
  configMode := by intro hr; cases hr
  runMode := fun _ => by
    refine ⟨small_legal, ⟨?_, ?_, ?_, ?_, ?_, ?_, ?_, ?_, ?_, ?_⟩, ⟨?_, ?_⟩⟩
    · show (0 : Word).toNat ≤ 2147483648; decide
    · show 0 ≤ s32 0; decide
    · show 0 ≤ s32 0; decide
    · show 0 ≤ s32 0; decide
    · show ¬(false = true ∧ false = true); decide
    · show (0 : BitVec 2).toInt = -1 ∨ (0 : BitVec 2).toInt = 0 ∨ (0 : BitVec 2).toInt = 1; decide
    · show 0 ≤ s32 0 ∧ s32 0 ≤ s32 0x01000000; decide
    · show (0 : Word) = 0 ∨ 65536 ≤ (0 : Word).toNat; decide
    · intro _; exact ⟨rfl, rfl, rfl, rfl, rfl, rfl⟩
    · intro hg; cases hg
    · show (0 : BitVec 8).toNat < (2 : Word).toNat; decide
    · intro hc; exact absurd rfl hc

theorem witness_EveryStepKeepsTheInvariant :
    Invariant (running 1) ∧ nextIs (step (presenting 0x100000800000#48 (running 1))) (fun t => t.fsm.stage == .waiting) = true :=
  ⟨running_sound, by decide⟩

/-- The shortest way from reset into RUN mode: the eight configuration registers that `START` refuses at 0, each with its least
legal value, then `START` and one `SAMPLE`. -/
def startWords : List HostEvent := [
  .command 0x400000000001#48, .command 0x400100000001#48, .command 0x400900000001#48, .command 0x400A00000001#48,
  .command 0x400B00000001#48, .command 0x401100000001#48, .command 0x401600000001#48, .command 0x401700000001#48,
  .command 0x600000000000#48, .command 0x100000800000#48]

/-- A run from reset that ends in RUN mode, one sample executed. -/
theorem witness_EveryRunFromResetIsSound :
    ∃ t : State, ReachedFromReset startWords 10 t ∧ t.run = true ∧ t.fsm.tick = 1 := by
  obtain ⟨t, h, hp⟩ := next_of_nextIs (o := Sys2Proof.core.run 10 (afterReset startWords))
    (p := fun t => t.run && t.fsm.tick == 1) (by decide)
  simp only [Bool.and_eq_true, beq_iff_eq] at hp
  exact ⟨t, h, hp.1, hp.2⟩

end Sys2Proof.Tests
end

section
/-! SUPPORT. 10_state.md: `STATUS` (R23) and the values after reset (R27). First what a command can answer at all, and the two
computed words as numbers; then the statements. -/

namespace Sys2Proof.Proofs

open Sys2Proof.Machine

/-! ### What a command answers -/

/-- The two ways a command given in state `s` ends (30 R58, 60 R236): it succeeds, in some state `u` with some result, or it
raises an error in `s` itself. -/
def Answers (s : State) (o : Host.Outcome State Fault Refusal) : Prop :=
  (∃ d u, o = succeed d u) ∨ (∃ e d, o = raiseError e d s)

theorem answers_succeed (s : State) (d : Word) (u : State) : Answers s (succeed d u) := .inl ⟨d, u, rfl⟩

theorem answers_raiseError (s : State) (e : ErrCode) (d : Word) : Answers s (raiseError e d s) := .inr ⟨e, d, rfl⟩

theorem answers_needRun {s : State} {k : Host.Outcome State Fault Refusal} (hk : Answers s k) :
    Answers s (needRun s k) := by
  cases hr : s.run with
  | true => rwa [needRun_true hr]
  | false => rw [needRun_false hr]; exact answers_raiseError ..

theorem answers_needConfig {s : State} {k : Host.Outcome State Fault Refusal} (hk : Answers s k) :
    Answers s (needConfig s k) := by
  cases hr : s.run with
  | false => rwa [needConfig_false hr]
  | true => rw [needConfig_true hr]; exact answers_raiseError ..

theorem answers_wrcfg (k : BitVec 8) (v : Word) (s : State) : Answers s (execWrcfg k v s) := by
  refine answers_needConfig ?_
  split
  · exact answers_succeed ..
  · exact answers_raiseError ..

theorem answers_rdreg (k : BitVec 8) (s : State) : Answers s (execRdreg k s) := by
  unfold execRdreg
  split
  · exact answers_succeed ..
  · exact answers_raiseError ..

theorem answers_start (s : State) : Answers s (execStart s) := by
  refine answers_needConfig ?_
  split
  · exact answers_succeed ..
  · exact answers_raiseError ..

/-- Every command, in every state, succeeds or raises an error. -/
theorem exec_answers (i : Instr) (s : State) : Answers s (exec i s) := by
  cases i with
  | nop => exact answers_succeed ..
  | sample x => exact answers_needRun (answers_succeed ..)
  | regulate => exact answers_needRun (answers_succeed ..)
  | settgt v => exact answers_succeed ..
  | wrcfg k v => exact answers_wrcfg k v s
  | rdreg k => exact answers_rdreg k s
  | start => exact answers_start s
  | rginit => exact answers_needRun (answers_succeed ..)
  | reset => exact answers_succeed ..

/-- So does a word that is no command: it raises the error of its check. -/
theorem rejectWord_answers (e : DecodeError) (s : State) : Answers s (rejectWord e s) := by
  cases e with
  | opcode => exact answers_raiseError ..
  | field => exact answers_raiseError ..

/-- An answer is a next state with a response on the port, and its status is that of the state it leaves. -/
theorem Answers.status {s t : State} {o : Host.Outcome State Fault Refusal} (ho : Answers s o) (ht : o = .next t) :
    ∃ r, t.rsp = some r ∧ r.status = statusByte t := by
  obtain ⟨d, u, rfl⟩ | ⟨e, d, rfl⟩ := ho
  · rw [succeed_next ht]
    exact ⟨_, respond_rsp .., rfl⟩
  · rw [raiseError_next ht]
    exact ⟨_, respond_rsp .., rfl⟩

/-- A response that stands after a step carries the status of the state after that step; a step with no command leaves none. -/
theorem step_status {s t : State} {r : Response} (ht : step s = .next t) (hr : t.rsp = some r) :
    r.status = statusByte t := by
  have of_answers {u : State} (ha : Answers u (step s)) : r.status = statusByte t := by
    obtain ⟨r', hr', hstatus⟩ := ha.status ht
    cases hr.symm.trans hr'
    exact hstatus
  obtain ⟨-, hs⟩ | ⟨rest, -, hs⟩ | ⟨w, rest, i, -, -, hs⟩ | ⟨w, rest, e, -, -, hs⟩ := step_cases s
  · cases hs.symm.trans ht
    cases hr
  · cases hs.symm.trans ht
    cases hr
  · exact of_answers (hs ▸ exec_answers ..)
  · exact of_answers (hs ▸ rejectWord_answers ..)

/-! ### Computed words as numbers -/

/-- Bits put above a word count with the weight of their place. -/
theorem toNat_append_eq_add {m n : Nat} (x : BitVec m) (y : BitVec n) :
    (x ++ y).toNat = x.toNat * 2 ^ n + y.toNat := by
  rw [BitVec.toNat_append, ← Nat.shiftLeft_add_eq_or_of_lt y.isLt, Nat.shiftLeft_eq]

/-- `AT_ORIGIN` compares `PHASE` and `FREQ` unsigned (10 R23, 41 R104). -/
theorem oscAtOrigin_toNat (o : OscState) : (oscAtOrigin o).toNat = if o.phase.toNat < o.freq.toNat then 1 else 0 :=
  apply_ite Bool.toNat _ true false

/-- `ERRSTICKY` is 0 as long as `ERR` holds no code (10 R23). -/
theorem errSticky_toNat (e : BitVec 4) : (e != 0).toNat = if e = 0 then 0 else 1 := by
  by_cases h : e = 0#4 <;> simp [h]

/-- The status byte is the sum of its fields at their places (10 R23). -/
theorem statusByte_toNat (s : State) :
    (statusByte s).toNat = (stageCode s.fsm.stage).toNat + 4 * s.agc.gate.toNat + 8 * s.trg.trig.toNat
      + 16 * s.run.toNat + 32 * s.fsm.synced.toNat + 64 * (oscAtOrigin s.osc).toNat + 128 * (s.err != 0).toNat := by
  unfold statusByte
  simp only [toNat_append_eq_add, BitVec.toNat_ofBool]
  omega

/-- `STATUS` reads the status byte; bits 31:8 are zero (10 R23). -/
theorem statusWord_toNat (s : State) : (statusWord s).toNat = (statusByte s).toNat := by
  unfold statusWord
  exact BitVec.toNat_setWidth_of_le (by decide)

/-- Index 0x40 is `STATUS` (10 R22). -/
theorem regRead_status (s : State) : regRead s 0x40 = some (statusWord s) := rfl

/-! ### The register map after reset -/

/-- Every configuration register is 0 after reset. -/
theorem cfgRead_reset {k : BitVec 8} {v : Word} (h : cfgRead State.reset.cfg k = some v) : v = 0 := by
  unfold cfgRead at h
  split at h <;> cases h <;> rfl

/-- Every other mapped register but `PLL_BITS`, the one that holds `PREV_REF`, is 0 after reset. -/
theorem dataRead_reset {k : BitVec 8} {v : Word} (hk : k ≠ 0x4B) (h : dataRead State.reset k = some v) : v = 0 := by
  unfold dataRead at h
  split at h <;> cases h
  any_goals rfl
  exact absurd rfl hk

/-- A mapped index names a configuration register or one of the others. -/
theorem regRead_some {s : State} {k : BitVec 8} {v : Word} (h : regRead s k = some v) :
    cfgRead s.cfg k = some v ∨ dataRead s k = some v := by
  unfold regRead at h
  split at h
  next w hw => exact .inl (hw.trans h)
  next => exact .inr h

/-! ### The statements -/

/-- Settles O20: the byte as the sum of its fields, index 0x40 by the register map, and the responses because every command
ends in `respond`. -/
theorem statusIsComputedFromTheState : Obligations.StatusIsComputedFromTheState := by
  refine ⟨fun s => ?_, fun s => ?_, fun i s t ht => (exec_answers i s).status ht, fun s t r => step_status⟩
  · rw [statusByte_toNat, oscAtOrigin_toNat, errSticky_toNat]
    cases s.fsm.stage <;> rfl
  · rw [regRead_status, Option.map_some, statusWord_toNat]

/-- Settles O25: the configuration registers and the others, each read at reset. -/
theorem resetValuesAreZeroButPrevRef : Obligations.ResetValuesAreZeroButPrevRef := by
  refine ⟨rfl, rfl, rfl, fun k v hk h => ?_⟩
  obtain hcfg | hdata := regRead_some h
  · exact cfgRead_reset hcfg
  · exact dataRead_reset hk hdata

end Sys2Proof.Proofs
end

section
/-! SUPPORT. 30_encoding.md: words that are no command (R61, R62). First what an error answers and what the checks of the
decoder decide, as statements about the fields; then the statements. -/

namespace Sys2Proof.Proofs

open Sys2Proof.Machine

/-! ### What a rejected word answers -/

/-- A raised error is the record update the statements speak of (60 R236). -/
theorem raiseError_eq_afterError (e : ErrCode) (d : Word) (s : State) :
    raiseError e d s = .next (afterError (errCode e) d s) := by
  rw [raiseError_eq, recordError_eq]
  rfl

theorem rejectWord_opcode (s : State) : rejectWord .opcode s = .next (afterError 1 0 s) :=
  raiseError_eq_afterError .opcode 0 s

theorem rejectWord_field (s : State) : rejectWord .field s = .next (afterError 2 0 s) :=
  raiseError_eq_afterError .field 0 s

/-- A step on a presented word that is no command rejects it, on the state with that word taken off the host's list. -/
theorem step_illegal {s : State} {w : Command} {rest : List HostEvent} {e : DecodeError}
    (hhost : s.host = .command w :: rest) (hdecode : decode w = .illegal e) :
    step s = rejectWord e { s with host := rest } := by
  simp [step, takeEvent_cons hhost, hdecode]

/-! ### The opcode check -/

/-- The reserved opcodes are those the map has no row for (30 R59, R61). -/
theorem instrOfOp_eq_none_iff (op : BitVec 4) (k : BitVec 8) (d : Word) : instrOfOp op k d = none ↔ 9 ≤ op.toNat := by
  unfold instrOfOp
  split
  case h_10 => simp only [imp_false, true_iff] at *; bv_omega
  all_goals simp

/-- Opcode 0 alone stands for `NOP` (30 R59). -/
theorem instrOfOp_eq_nop_iff (op : BitVec 4) (k : BitVec 8) (d : Word) : instrOfOp op k d = some .nop ↔ op = 0#4 := by
  unfold instrOfOp
  split
  case h_10 hzero _ _ _ _ _ _ _ _ => exact iff_of_false nofun hzero
  all_goals simp

/-- Check 1 of 30 R60, on the opcode alone: no other field is looked at. -/
theorem decode_of_reserved {w : Command} (hop : 9 ≤ (opField w).toNat) : decode w = .illegal .opcode := by
  simp [decode, (instrOfOp_eq_none_iff ..).2 hop]

/-! ### The field check -/

/-- Check 2 of 30 R60, field by field. -/
theorem fieldViolation_iff (w : Command) :
    fieldViolation w = true ↔
      rsvField w ≠ 0#4 ∨ (idxField w ≠ 0#8 ∧ opUsesIdx (opField w) = false) ∨
        (dataField w ≠ 0#32 ∧ opUsesData (opField w) = false) := by
  simp [fieldViolation, or_assoc]

theorem opUsesIdx_eq_false_iff (op : BitVec 4) : opUsesIdx op = false ↔ op.toNat ≠ 4 ∧ op.toNat ≠ 5 := by
  simp [opUsesIdx, BitVec.toNat_eq]

theorem opUsesData_eq_false_iff (op : BitVec 4) :
    opUsesData op = false ↔ op.toNat ≠ 1 ∧ op.toNat ≠ 3 ∧ op.toNat ≠ 4 := by
  simp [opUsesData, BitVec.toNat_eq, and_assoc]

/-- Check 2 comes after check 1: it decides the words of a legal opcode. -/
theorem decode_of_fieldViolation {w : Command} (hop : (opField w).toNat ≤ 8) (hfield : fieldViolation w = true) :
    decode w = .illegal .field := by
  cases hi : instrOfOp (opField w) (idxField w) (dataField w) with
  | none => have hreserved := (instrOfOp_eq_none_iff ..).1 hi; omega
  | some i => simp [decode, hi, hfield]

/-! ### Words that are commands -/

/-- A word is a command when both checks pass. -/
theorem decode_eq_command_iff {w : Command} {i : Instr} :
    decode w = .command i ↔
      instrOfOp (opField w) (idxField w) (dataField w) = some i ∧ fieldViolation w = false := by
  unfold decode
  split
  next hnone => simp [hnone]
  next j hsome => cases hf : fieldViolation w <;> simp [hsome]

/-- `NOP` uses no field, so all four fields of its word are 0 and so is the word (30 R61: no other encoding executes as a
no-operation). -/
theorem decode_eq_nop_iff (w : Command) : decode w = .command .nop ↔ w = 0 := by
  refine ⟨fun h => ?_, fun h => h ▸ by decide⟩
  obtain ⟨hinstr, hclean⟩ := decode_eq_command_iff.1 h
  have hop : opField w = 0#4 := (instrOfOp_eq_nop_iff ..).1 hinstr
  have hviolation := mt (fieldViolation_iff w).2 (by simp [hclean])
  simp only [hop, opUsesIdx, opUsesData] at hviolation
  obtain ⟨hrsv, hidx, hdata⟩ : rsvField w = 0#4 ∧ idxField w = 0#8 ∧ dataField w = 0#32 := by simpa using hviolation
  calc w = packWord (opField w) (idxField w) (dataField w) := (packWord_fields hrsv).symm
    _ = packWord 0#4 0#8 0#32 := by rw [hop, hidx, hdata]
    _ = 0 := by decide

/-! ### The statements -/

/-- Settles O4: check 1 rejects the word, and a word read as `NOP` has all its fields 0. -/
theorem reservedOpcodeRaisesErrOpcode : Obligations.ReservedOpcodeRaisesErrOpcode := by
  refine ⟨fun s w rest hhost hop => ?_, decode_eq_nop_iff⟩
  have hdecode : decode w = .illegal .opcode := decode_of_reserved (by rw [opField_toNat]; exact hop)
  rw [step_illegal hhost hdecode, rejectWord_opcode]

/-- Settles O5: the premise is check 2 on the fields as numbers, and check 1 passes. -/
theorem nonzeroUnusedFieldRaisesErrField : Obligations.NonzeroUnusedFieldRaisesErrField := by
  intro s w rest hhost hop hnonzero
  have hfield : fieldViolation w = true := by
    rw [fieldViolation_iff, opUsesIdx_eq_false_iff, opUsesData_eq_false_iff]
    simpa [BitVec.toNat_eq, rsvField_toNat, idxField_toNat, dataField_toNat, opField_toNat] using hnonzero
  have hdecode : decode w = .illegal .field := decode_of_fieldViolation (by rw [opField_toNat]; exact hop) hfield
  rw [step_illegal hhost hdecode, rejectWord_field]

end Sys2Proof.Proofs
end

section
/-! SUPPORT. 40_arithmetic.md: saturation (R81 to R83), the reciprocal (R85), and wrapping into a register word (R87). First each
primitive as a formula on integers; then the statements. -/

namespace Sys2Proof.Proofs

open Sys2Proof.Machine

/-! ### Saturation -/

/-- The comparisons of 40 R81 clamp from above, then from below. -/
theorem sat_eq_max_min (v : Int) : sat v = max Config.qMin (min v Config.qMax) := by
  unfold sat Config.qMin Config.qMax
  split
  · omega
  · split <;> omega

/-- On a value that is not negative, only the upper bound can bite. -/
theorem sat_of_nonneg {v : Int} (h : 0 ≤ v) : sat v = min v Config.qMax := by
  have hmin : Config.qMin ≤ min v Config.qMax := by
    unfold Config.qMin Config.qMax
    omega
  rw [sat_eq_max_min, max_eq_right hmin]

theorem absq_eq_sat_abs (a : Int) : absq a = sat |a| := by
  unfold absq
  split
  next hneg => rw [abs_of_neg hneg]
  next hnonneg => rw [abs_of_nonneg (Int.not_lt.1 hnonneg)]

/-! ### The reciprocal -/

/-- The model's integer division by a positive number is the floor of the rational quotient (00 R6). -/
theorem floor_intCast_div_of_pos (n : Int) {d : Int} (hd : 0 < d) : ⌊(n : ℚ) / (d : ℚ)⌋ = n / d := by
  lift d to ℕ using hd.le
  exact Rat.floor_intCast_div_natCast n d

theorem recipq_of_nonpos {e : Int} (h : e ≤ 0) : recipq e = Config.qMax := if_pos h

theorem recipq_of_pos {e : Int} (h : 0 < e) : recipq e = min (281474976710656 / e) Config.qMax :=
  if_neg (Int.not_le.2 h)

/-! ### Register words -/

theorem u32_toNat (v : Int) : ((u32 v).toNat : Int) = v % 4294967296 := by
  unfold u32
  rw [BitVec.toNat_ofInt]
  exact Int.toNat_of_nonneg (Int.emod_nonneg v (by decide))

/-- The two's-complement reading of a word, from its value as an unsigned number (40 R87). -/
theorem s32_eq_toNat_cond (w : Word) :
    s32 w = if (w.toNat : Int) ≥ 2147483648 then (w.toNat : Int) - 4294967296 else w.toNat := by
  unfold s32
  rw [BitVec.toInt_eq_toNat_cond]
  split <;> split <;> omega

/-! ### The statements -/

/-- Settles O54: the two branches of the definition, its division read as the rational floor; the corner cases by evaluation. -/
theorem recipqIsTheFlooredReciprocal : Obligations.RecipqIsTheFlooredReciprocal := by
  refine ⟨fun e he => recipq_of_nonpos he, fun e he => ?_, by decide, by decide, by decide, by decide, by decide⟩
  calc recipq e = min (281474976710656 / e) 2147483647 := recipq_of_pos he
    _ = min ⌊((281474976710656 : Int) : ℚ) / (e : ℚ)⌋ 2147483647 := by rw [floor_intCast_div_of_pos _ he]
    _ = min ⌊(281474976710656 : ℚ) / (e : ℚ)⌋ 2147483647 := by norm_cast

/-- Settles O52: each primitive is one `sat` of the exact result, and an absolute value meets only the upper bound. -/
theorem saturationClamps : Obligations.SaturationClamps := by
  refine ⟨sat_eq_max_min, fun a b => ⟨sat_eq_max_min (a + b), sat_eq_max_min (a - b)⟩, fun a => ⟨sat_eq_max_min (-a), ?_⟩⟩
  rw [absq_eq_sat_abs]
  exact ⟨sat_of_nonneg (abs_nonneg a), sat_nonneg (abs_nonneg a)⟩

/-- Settles O56: the residue is the word's unsigned value, from which the signed reading follows. -/
theorem wrapAndSignedReading : Obligations.WrapAndSignedReading := by
  refine ⟨u32_toNat, fun v => ?_, fun v hmin hmax => s32_u32 ⟨hmin, hmax⟩⟩
  rw [s32_eq_toNat_cond, u32_toNat]

end Sys2Proof.Proofs
end

section
/-! SUPPORT. 41_oscillator.md: the unit operations (R101, R102, R104, R105). First what each writes into the two registers, as a
number; then the statements. -/

namespace Sys2Proof.Proofs

open Sys2Proof.Machine

/-! ### The advance and the origin query -/

@[simp] theorem oscAdvance_freq (o : OscState) : (oscAdvance o).freq = o.freq := rfl

theorem oscAdvance_phase_toNat (o : OscState) :
    (oscAdvance o).phase.toNat = (o.phase.toNat + o.freq.toNat) % 4294967296 := BitVec.toNat_add ..

theorem oscAtOrigin_iff (o : OscState) : oscAtOrigin o = true ↔ o.phase.toNat < o.freq.toNat := decide_eq_true_iff

/-- Of two numbers below the modulus, the second exceeds the wrapped sum exactly when the sum wrapped. -/
theorem add_mod_lt_iff_le_add {m p f : Nat} (hp : p < m) (hf : f < m) : (p + f) % m < f ↔ m ≤ p + f := by
  obtain hwrap | hstay := le_or_gt m (p + f)
  · have hsum : (p + f) % m = p + f - m := by
      rw [Nat.mod_eq_sub_mod hwrap, Nat.mod_eq_of_lt (by omega)]
    omega
  · rw [Nat.mod_eq_of_lt hstay]
    omega

/-- After an advance the origin query tells whether that advance wrapped (41 R104). -/
theorem oscAtOrigin_oscAdvance_iff (o : OscState) :
    oscAtOrigin (oscAdvance o) = true ↔ 4294967296 ≤ o.phase.toNat + o.freq.toNat := by
  rw [oscAtOrigin_iff, oscAdvance_phase_toNat, oscAdvance_freq]
  exact add_mod_lt_iff_le_add o.phase.isLt o.freq.isLt

/-! ### The frequency clamp -/

@[simp] theorem oscSetFreq_phase (v : Int) (o : OscState) : (oscSetFreq v o).phase = o.phase := rfl

/-- The clamped frequency fits its register, so storing it does not wrap (41 R102). -/
theorem oscSetFreq_freq_toNat (v : Int) (o : OscState) :
    ((oscSetFreq v o).freq.toNat : Int) = clamp v 0 Config.freqMax := by
  obtain ⟨hlo, hhi⟩ : 0 ≤ clamp v 0 Config.freqMax ∧ clamp v 0 Config.freqMax ≤ Config.freqMax :=
    clamp_bounds (by decide)
  exact u32_toNat_of_lt hlo (hhi.trans_lt (by decide))

/-! ### The smooth phase assignment -/

/-- The arithmetic shift is the floored division by a power of two (40 R88). -/
theorem shr_eq_div (v : Int) (n : Nat) : shr v n = v / 2 ^ n := by
  unfold shr
  exact_mod_cast Int.shiftRight_eq_div_pow v n

theorem shr_zero (v : Int) : shr v 0 = v := Int.shiftRight_zero v

/-- An integer added to a word by way of `u32` is added modulo `2^32`. -/
theorem add_u32_toNat (w : Word) (v : Int) : ((w + u32 v).toNat : Int) = ((w.toNat : Int) + v) % 4294967296 := by
  rw [BitVec.toNat_add]
  push_cast
  rw [u32_toNat, Int.add_emod_emod]

/-- The shortest-way distance from phase `p` to phase `t`, from their unsigned values: half a cycle is a way back (41 R105). -/
theorem s32_sub_eq_ite (t p : Word) :
    s32 (t - p) = if (t.toNat + 4294967296 - p.toNat) % 4294967296 < 2147483648
      then (((t.toNat + 4294967296 - p.toNat) % 4294967296 : Nat) : Int)
      else (((t.toNat + 4294967296 - p.toNat) % 4294967296 : Nat) : Int) - 4294967296 := by
  have hsub : (t - p).toNat = (t.toNat + 4294967296 - p.toNat) % 4294967296 := by bv_omega
  rw [s32_eq_toNat_cond, hsub]
  split <;> split <;> omega

@[simp] theorem oscSyncPhase_freq (k : Nat) (t : Word) (o : OscState) : (oscSyncPhase k t o).freq = o.freq := rfl

theorem oscSyncPhase_phase_toNat (k : Nat) (t : Word) (o : OscState) :
    ((oscSyncPhase k t o).phase.toNat : Int) = ((o.phase.toNat : Int) + s32 (t - o.phase) / 2 ^ k) % 4294967296 := by
  rw [← shr_eq_div]
  exact add_u32_toNat ..

/-- At shift 0 the nudge goes the whole way: it is the direct assignment (41 R105). -/
theorem oscSyncPhase_zero (t : Word) (o : OscState) : oscSyncPhase 0 t o = oscSetPhase t o := by
  have hphase : o.phase + (t - o.phase) = t := by rw [BitVec.add_comm, BitVec.sub_add_cancel]
  rw [oscSyncPhase, shr_zero, u32_s32, hphase, oscSetPhase]

/-! ### The statements -/

/-- Settles O50: the model's signed difference is the shortest-way distance, and the addition wraps. -/
theorem syncPhaseNudgesByAFraction : Obligations.SyncPhaseNudgesByAFraction := by
  intro k t o d
  have hdist : s32 (t - o.phase) = d := s32_sub_eq_ite t o.phase
  refine ⟨?_, oscSyncPhase_freq k t o, ?_⟩
  · rw [oscSyncPhase_phase_toNat, hdist]
  · rw [oscSyncPhase_zero, oscSetPhase]

/-- Settles O49: the wrapped sum, the clamp that fits the register, and the origin query as a wrap detector. -/
theorem oscillatorWrapsAndClamps : Obligations.OscillatorWrapsAndClamps := fun o =>
  ⟨oscAdvance_phase_toNat o, oscAdvance_freq o, fun v => ⟨oscSetFreq_freq_toNat v o, oscSetFreq_phase v o⟩,
    oscAtOrigin_iff o, oscAtOrigin_oscAdvance_iff o⟩

end Sys2Proof.Proofs
end

section
/-! SUPPORT. 42_agc_gate.md: the conditioner (R116 to R121). First what a `SAMPLE` leaves in its registers, what each register
holds after one conditioner step, and the noise gate by the place of the envelope; then the statements. -/

namespace Sys2Proof.Proofs

open Sys2Proof.Machine

/-! ### What a sample leaves in the front end's registers -/

/-- An executed `SAMPLE` answers the state of 45 R166 with the response on the port. -/
theorem exec_sample_next {x : Word} {s t : State} (hrun : s.run = true) (ht : exec (.sample x) s = .next t) :
    t = respond 0 (sampleState wave x s).out.out (sampleState wave x s) := by
  rw [exec_sample, needRun_true hrun] at ht
  exact succeed_next ht

/-- In every stage the conditioner's registers are those of one conditioner step (42 R122). -/
theorem exec_sample_agc {x : Word} {s t : State} (hrun : s.run = true) (ht : exec (.sample x) s = .next t) :
    t.agc = (agcStep s.cfg s.agc (s32 x)).1 := by
  rw [exec_sample_next hrun ht, respond_agc, sampleState_agc]

/-- In every stage the trigger takes its step on the normalised sample and the new gate (42 R122, 43 R142). -/
theorem exec_sample_trg {x : Word} {s t : State} (hrun : s.run = true) (ht : exec (.sample x) s = .next t) :
    t.trg = (triggerStep s.cfg s.trg (agcStep s.cfg s.agc (s32 x)).2 t.agc.gate).1 := by
  rw [exec_sample_agc hrun ht, exec_sample_next hrun ht, respond_trg, sampleState_trg]
  exact frontEnd_trg (s32 x) s

/-! ### The registers after one conditioner step -/

section
variable (c : ConfigRegs) (a : AgcState) (x : Int)

/-- `DC` keeps the offset estimate as it is (42 R116). -/
theorem s32_agcStep_dc : s32 (agcStep c a x).1.dc = dcEstimate c a x := s32_u32 (lp1_inQ ..)

/-- `LP` keeps the conditioned sample as it is (42 R118). -/
theorem s32_agcStep_lp : s32 (agcStep c a x).1.lp = conditioned c a x := s32_u32 (lp1_inQ ..)

/-- `ENV` keeps the followed envelope as it is (42 R119). -/
theorem s32_agcStep_env : s32 (agcStep c a x).1.env = envFollow c (s32 a.env) (conditioned c a x) := s32_u32 (lp1_inQ ..)

/-- `GATE` is decided on the envelope of this sample, as the register holds it (42 R120). -/
theorem agcStep_gate : (agcStep c a x).1.gate = gateNext c (s32 (agcStep c a x).1.env) a.gate := by
  rw [s32_agcStep_env]
  rfl

/-- The sample passed on is normalised by the new envelope under the new gate (42 R121). -/
theorem agcStep_norm :
    (agcStep c a x).2 =
      normalise c (conditioned c a x) (s32 (agcStep c a x).1.env) (agcStep c a x).1.gate := by
  rw [s32_agcStep_env]
  rfl

end

/-- The follower chooses its coefficient before the one-pole step; 42 R119 chooses between two steps. -/
theorem envFollow_eq_ite (c : ConfigRegs) (env lp : Int) :
    envFollow c env lp =
      if absq lp > env then lp1 env (absq lp) (s32 c.envAtt) else lp1 env (absq lp) (s32 c.envRel) :=
  apply_ite (lp1 env (absq lp)) ..

/-! ### The noise gate -/

section
variable {c : ConfigRegs} {env : Int} {gate : Bool}

theorem gateNext_of_gt (hhi : env > s32 c.gateHi) : gateNext c env gate = true := if_pos hhi

/-- Thresholds in order, an envelope below `GATE_LO` is not above `GATE_HI`. -/
theorem gateNext_of_lt (hlo : env < s32 c.gateLo) (horder : s32 c.gateLo ≤ s32 c.gateHi) : gateNext c env gate = false := by
  rw [gateNext, if_neg (not_lt.2 (hlo.le.trans horder)), if_pos hlo]

/-- Both comparisons are strict, so the thresholds themselves count as between (42 R120). -/
theorem gateNext_of_between (hlo : s32 c.gateLo ≤ env) (hhi : env ≤ s32 c.gateHi) : gateNext c env gate = gate := by
  rw [gateNext, if_neg (not_lt.2 hhi), if_neg (not_lt.2 hlo)]

end

/-! ### The statements -/

/-- Settles O39: the registers a `SAMPLE` leaves are those of one conditioner step, and each of them holds its formula; only
the follower's choice of coefficient is written otherwise. -/
theorem conditionerFollowsItsSteps : Obligations.ConditionerFollowsItsSteps := by
  refine ⟨fun x s t hrun ht => ⟨exec_sample_agc hrun ht, exec_sample_trg hrun ht⟩, fun c a x => ?_⟩
  intro dc hp k lp m env r
  have henv : s32 r.1.env = env := (s32_agcStep_env c a x).trans (envFollow_eq_ite c (s32 a.env) lp)
  have hgate : r.1.gate = gateNext c env a.gate := henv ▸ agcStep_gate c a x
  have hnorm : r.2 = normalise c lp env r.1.gate := henv ▸ agcStep_norm c a x
  exact ⟨s32_agcStep_dc c a x, s32_agcStep_lp c a x, henv, hgate, hnorm⟩

/-- Settles O40: the new gate is `gateNext` of the new envelope, which lies above, below or between the thresholds. -/
theorem gateIsHysteretic : Obligations.GateIsHysteretic := by
  intro x s t hrun ht
  have hgate : t.agc.gate = gateNext s.cfg (s32 t.agc.env) s.agc.gate := by
    rw [exec_sample_agc hrun ht, ← agcStep_gate]
  rw [hgate]
  exact ⟨gateNext_of_gt, gateNext_of_lt, gateNext_of_between⟩

end Sys2Proof.Proofs
end

section
/-! SUPPORT. 43_cycle_trigger.md: the trigger (R136 to R141). First the hold's range, so that its register keeps it; then the
registers after one trigger step, the output state by its three cases, and the edge; then the statement. -/

namespace Sys2Proof.Proofs

open Sys2Proof.Machine

/-! ### The peak hold -/

/-- A hold is a saturated decay, the input or 0, so it is a Q8.24 value whenever the input is one (43 R136). -/
theorem peakHold_inQ (c : ConfigRegs) {x : Int} (hx : InQ x) (ph : Int) : InQ (peakHold c x ph) := by
  have hdecayed : InQ (subq ph (mulq (s32 c.trigDecay) ph)) := subq_inQ ..
  have hnonneg : 0 ≤ peakHold c x ph := le_max_right ..
  have hmax : peakHold c x ph ≤ Config.qMax := max_le (max_le hx.2 hdecayed.2) (by decide)
  exact ⟨le_trans (by decide) hnonneg, hmax⟩

/-! ### The registers after one trigger step -/

section
variable (c : ConfigRegs) (t : TriggerState) (act : Bool)

/-- `PHP` keeps the positive detector's hold as it is. -/
theorem s32_triggerStep_php {x : Int} (hx : InQ x) :
    s32 (triggerStep c t x act).1.php = peakHold c x (s32 t.php) := s32_u32 (peakHold_inQ c hx _)

/-- `PHN` keeps the hold of the negated input, which saturation keeps in range for every input (43 R139). -/
theorem s32_triggerStep_phn (x : Int) :
    s32 (triggerStep c t x act).1.phn = peakHold c (negq x) (s32 t.phn) := s32_u32 (peakHold_inQ c (negq_inQ x) _)

theorem triggerStep_cmpp (x : Int) :
    (triggerStep c t x act).1.cmpp = peakCompare c x (peakHold c x (s32 t.php)) t.cmpp := rfl

theorem triggerStep_cmpn (x : Int) :
    (triggerStep c t x act).1.cmpn = peakCompare c (negq x) (peakHold c (negq x) (s32 t.phn)) t.cmpn := rfl

/-- The output is decided on the comparator bits of this sample (43 R140). -/
theorem triggerStep_trig (x : Int) :
    (triggerStep c t x act).1.trig =
      trigNext act (triggerStep c t x act).1.cmpp (triggerStep c t x act).1.cmpn t.trig := rfl

/-- The edge is the rise of the output register (43 R141). -/
theorem triggerStep_edge_iff (x : Int) :
    (triggerStep c t x act).2 = true ↔ (triggerStep c t x act).1.trig = true ∧ t.trig = false := by
  have hedge : (triggerStep c t x act).2 = ((triggerStep c t x act).1.trig && !t.trig) := rfl
  rw [hedge, Bool.and_eq_true, Bool.not_eq_true']

end

/-! ### The output state -/

section
variable {act cmpp cmpn trig : Bool}

/-- Loss of activity and a negative pulse each put the output at -1, whatever the positive detector says. -/
theorem trigNext_of_down (h : act = false ∨ cmpn = true) : trigNext act cmpp cmpn trig = false :=
  if_pos (by simpa using h)

theorem trigNext_of_active (hact : act = true) (hn : cmpn = false) :
    trigNext act cmpp cmpn trig = if cmpp then true else trig := if_neg (by simp [hact, hn])

theorem trigNext_of_up (hact : act = true) (hn : cmpn = false) (hp : cmpp = true) :
    trigNext act cmpp cmpn trig = true := by
  rw [trigNext_of_active hact hn, if_pos hp]

theorem trigNext_of_quiet (hact : act = true) (hn : cmpn = false) (hp : cmpp = false) :
    trigNext act cmpp cmpn trig = trig := by
  rw [trigNext_of_active hact hn, if_neg (by simp [hp])]

end

/-! ### The statement -/

/-- Settles O42: both holds fit their registers, the comparator bits are the detectors' own, and the new output is `trigNext`
of them, by its three cases. -/
theorem triggerFollowsItsSteps : Obligations.TriggerFollowsItsSteps := by
  intro c t x act hmin hmax hold cmp r
  have hphp : s32 r.1.php = hold x (s32 t.php) := s32_triggerStep_php c t act ⟨hmin, hmax⟩
  have hphn : s32 r.1.phn = hold (negq x) (s32 t.phn) := s32_triggerStep_phn c t act x
  have hcmpp : r.1.cmpp = cmp x (hold x (s32 t.php)) t.cmpp := triggerStep_cmpp c t act x
  have hcmpn : r.1.cmpn = cmp (negq x) (hold (negq x) (s32 t.phn)) t.cmpn := triggerStep_cmpn c t act x
  have htrig : r.1.trig = trigNext act r.1.cmpp r.1.cmpn t.trig := triggerStep_trig c t act x
  exact ⟨hphp, hphn, hcmpp, hcmpn, fun hdown => htrig.trans (trigNext_of_down hdown),
    fun hact hn hp => htrig.trans (trigNext_of_up hact hn hp),
    fun hact hn hp => htrig.trans (trigNext_of_quiet hact hn hp), triggerStep_edge_iff c t act x⟩

end Sys2Proof.Proofs
end

section
/-! SUPPORT. 44_pll.md: one step of the phase detector and the loop filter (R151 to R156), and the period of the compensation
(R158; 45_sustain_fsm.md R177). First the parts of the step, each as a Boolean or a number; then the period of each mode; then
the statements. -/

namespace Sys2Proof.Proofs

open Sys2Proof.Machine

/-! ### The phase detector -/

/-- The reference is 1 in the half cycle that starts at `PH_OFS` (44 R151). -/
theorem refLevel_eq_decide (phase phOfs : Word) :
    refLevel phase phOfs = decide ((phase - phOfs).toNat < 2147483648) := by
  have htop : (phase - phOfs).getLsbD 31 = decide (2147483648 ≤ (phase - phOfs).toNat) :=
    (BitVec.msb_eq_getLsbD_last _).symm.trans (BitVec.msb_eq_decide _)
  rw [refLevel, htop, ← decide_not, decide_eq_decide, not_le]

section
variable (q : PllState)

@[simp] theorem clearBoth_prevSig : (clearBoth q).prevSig = q.prevSig := by unfold clearBoth; split <;> rfl

@[simp] theorem clearBoth_prevRef : (clearBoth q).prevRef = q.prevRef := by unfold clearBoth; split <;> rfl

/-- After the clear a latch is set exactly if it was set alone (44 R153). -/
theorem clearBoth_latches :
    (clearBoth q).ffSig = (q.ffSig && !q.ffRef) ∧ (clearBoth q).ffRef = (q.ffRef && !q.ffSig) := by
  unfold clearBoth
  split
  next hboth =>
    obtain ⟨hsig, href⟩ := Bool.and_eq_true_iff.1 hboth
    simp [hsig, href]
  next hboth =>
    rw [Bool.and_eq_true, not_and, Bool.not_eq_true] at hboth
    cases hsig : q.ffSig
    · simp
    · simp [hboth hsig]

/-- The clear takes 1 from both latches or from neither, so the error may be read from the latches before it (44 R153). -/
theorem phaseError_clearBoth : phaseError (clearBoth q) = phaseError q := by
  unfold clearBoth
  split
  next hboth =>
    obtain ⟨hsig, href⟩ := Bool.and_eq_true_iff.1 hboth
    simp [phaseError, hsig, href]
  next => rfl

theorem phaseError_eq_ite : phaseError q = (if q.ffRef then 1 else 0) - (if q.ffSig then 1 else 0) := by
  simp only [phaseError, Bool.toNat, Bool.cond_eq_ite, Nat.cast_ite, Nat.cast_one, Nat.cast_zero]

theorem phaseError_bounds : -1 ≤ phaseError q ∧ phaseError q ≤ 1 := by
  have href := q.ffRef.toNat_le
  have hsig := q.ffSig.toNat_le
  unfold phaseError
  omega

/-- The 2-bit register `PREV_ERR` keeps every error as it is (44 R156). -/
theorem toInt_ofInt_phaseError : (BitVec.ofInt 2 (phaseError q)).toInt = phaseError q := by
  obtain ⟨hlo, hhi⟩ := phaseError_bounds q
  exact BitVec.toInt_ofInt_eq_self (by decide) (by omega) (by omega)

end

/-! ### The loop filter -/

theorem kpShift_eq_mod (c : ConfigRegs) : kpShift c = c.pllShifts.toNat % 32 := BitVec.extractLsb'_toNat ..

theorem kpdShift_eq_mod (c : ConfigRegs) : kpdShift c = c.pllShifts.toNat / 256 % 32 := by
  rw [kpdShift, BitVec.extractLsb'_toNat, Nat.shiftRight_eq_div_pow]

theorem loopDelta_eq (c : ConfigRegs) (err prevErr : Int) :
    loopDelta c err prevErr =
      err * 2 ^ (c.pllShifts.toNat % 32) + (err - prevErr) * 2 ^ (c.pllShifts.toNat / 256 % 32) := by
  rw [loopDelta, kpShift_eq_mod, kpdShift_eq_mod, shl, shl]

/-! ### The period of the compensation -/

section
variable {s : State}

theorem trackedPeriod_direct (hmode : s.cfg.mode.getLsbD 0 = true) : trackedPeriod s = directPeriod s.fsm := if_pos hmode

theorem trackedPeriod_pll (hmode : s.cfg.mode.getLsbD 0 = false) : trackedPeriod s = pllPeriod s.osc :=
  if_neg (Bool.eq_false_iff.1 hmode)

end

/-- The rounded period is 0 exactly below half a sample (45 R177). -/
theorem directPeriod_eq_zero_iff (f : FsmState) : directPeriod f = 0 ↔ f.periodEst.toNat < 32768 := by
  unfold directPeriod
  omega

/-- An estimate of at least one sample is far from rounding to 0, so only "not yet measured" gives period 0 (45 R177). -/
theorem directPeriod_eq_zero_iff_of_measured {f : FsmState} (hest : f.periodEst = 0 ∨ 65536 ≤ f.periodEst.toNat) :
    directPeriod f = 0 ↔ f.periodEst = 0 := by
  have hzero : f.periodEst = 0 ↔ f.periodEst.toNat = 0 := BitVec.toNat_inj.symm
  rw [directPeriod_eq_zero_iff, hzero]
  rw [hzero] at hest
  omega

section
variable {o : OscState}

theorem pllPeriod_of_zero (hfreq : o.freq = 0) : pllPeriod o = 0 := if_neg (by simp [hfreq])

theorem pllPeriod_of_ne_zero (hfreq : o.freq ≠ 0) : pllPeriod o = 4294967296 / o.freq.toNat :=
  if_pos (BitVec.toNat_pos_of_ne_zero hfreq)

/-- A frequency within `FREQ_MAX` is at most half a cycle per sample (44 R158). -/
theorem two_le_pllPeriod (hfreq : o.freq ≠ 0) (hmax : o.freq.toNat ≤ 2147483648) : 2 ≤ pllPeriod o := by
  rw [pllPeriod_of_ne_zero hfreq, Nat.le_div_iff_mul_le (BitVec.toNat_pos_of_ne_zero hfreq)]
  omega

end

/-! ### The statements -/

/-- Settles O45: the latches are those set on the edges less the ones cleared together, the error is read from them before the
clear, and the frequency is the clamped difference. -/
theorem pllFollowsItsSteps : Obligations.PllFollowsItsSteps := by
  intro c p o phOfs sig ref fs fr err delta r
  have href : refLevel o.phase phOfs = ref := refLevel_eq_decide o.phase phOfs
  have hdetect : phaseDetect p sig (refLevel o.phase phOfs) = clearBoth (latchEdges p sig ref) := by
    rw [href, phaseDetect]
  have herr : phaseError (clearBoth (latchEdges p sig ref)) = err :=
    (phaseError_clearBoth _).trans (phaseError_eq_ite _)
  have hstep : r = ({ clearBoth (latchEdges p sig ref) with prevErr := BitVec.ofInt 2 err },
      oscSetFreq ((o.freq.toNat : Int) - delta) o) := by
    simp only [r, pllStep, hdetect, herr, loopDelta_eq, delta]
  obtain ⟨hffSig, hffRef⟩ := clearBoth_latches (latchEdges p sig ref)
  have hprevErr : (BitVec.ofInt 2 err).toInt = err := herr ▸ toInt_ofInt_phaseError (clearBoth _)
  rw [hstep]
  exact ⟨hffSig, hffRef, clearBoth_prevSig _, clearBoth_prevRef _, hprevErr, oscSetFreq_phase _ o,
    oscSetFreq_freq_toNat _ o⟩

/-- Settles O46: each mode has its own period, and each period its own guard. -/
theorem trackedPeriodIsGuarded : Obligations.TrackedPeriodIsGuarded := by
  refine fun s => ⟨fun hdirect => ?_, fun hpll => ?_⟩
  · rw [trackedPeriod_direct hdirect]
    exact ⟨rfl, directPeriod_eq_zero_iff_of_measured⟩
  · rw [trackedPeriod_pll hpll]
    exact ⟨pllPeriod_of_zero, pllPeriod_of_ne_zero, two_le_pllPeriod⟩

end Sys2Proof.Proofs
end

section
/-! SUPPORT. 45_sustain_fsm.md: the measurement of the edges (R170), the phase compensation (R178 to R180), and `SAMPLE` stage by
stage (R167, R168, R181, R188, R190). First what each part of a sample does to the registers of the state machine and of the
oscillator; then the tracked sample and the two ways a sample ends; then the statements. -/

namespace Sys2Proof.Proofs

open Sys2Proof.Machine

/-! ### The phase before the advance, and the distance of two ticks -/

/-- The phase before the advance is the one after it less the frequency. -/
@[simp] theorem oscAdvance_phase_sub_freq (o : OscState) : (oscAdvance o).phase - o.freq = o.phase :=
  BitVec.add_sub_cancel ..

/-- The distance of two ticks, from their unsigned values (45 R170). -/
theorem edgeInterval_eq_mod (f : FsmState) :
    edgeInterval f = (f.tick.toNat + 4294967296 - f.lastEdge.toNat) % 4294967296 := by
  unfold edgeInterval
  bv_omega

theorem edgeInterval_pos_iff (f : FsmState) : 0 < edgeInterval f ↔ f.lastEdge ≠ f.tick := by
  unfold edgeInterval
  bv_omega

/-- Recording the tick that stands recorded changes nothing. -/
theorem set_lastEdge_self {f : FsmState} {v : Word} (h : f.lastEdge = v) : { f with lastEdge := v } = f := by
  subst h
  rfl

/-! ### Direct timing, by what is recorded -/

section
variable (c : ConfigRegs) {f : FsmState} (o : OscState)

theorem directTiming_of_no_edge {edge : Bool} (h : edge = false ∨ f.tick = 0) : directTiming c f o edge = (f, o) :=
  if_neg (by obtain h | h := h <;> simp [h])

/-- At an edge that counts, the tick is recorded, after a reading if an earlier edge stands at another tick (45 R170). -/
theorem directTiming_of_edge (htick : f.tick ≠ 0) :
    directTiming c f o true =
      (let r := if f.lastEdge ≠ 0 ∧ f.lastEdge ≠ f.tick then measurePeriod c (edgeInterval f) f o else (f, o)
       ({ r.1 with lastEdge := f.tick }, r.2)) := by
  have hcounts : (true && f.tick != 0) = true := bne_iff_ne.2 htick
  have hreads : (f.lastEdge != 0 && decide (0 < edgeInterval f)) = true ↔ f.lastEdge ≠ 0 ∧ f.lastEdge ≠ f.tick := by
    rw [Bool.and_eq_true, bne_iff_ne, decide_eq_true_iff, edgeInterval_pos_iff]
  rw [directTiming, if_pos hcounts]
  simp only [hreads]

theorem directTiming_of_reading (htick : f.tick ≠ 0) (hlast : f.lastEdge ≠ 0) (hne : f.lastEdge ≠ f.tick) :
    directTiming c f o true =
      ({ (measurePeriod c (edgeInterval f) f o).1 with lastEdge := f.tick }, (measurePeriod c (edgeInterval f) f o).2) := by
  rw [directTiming_of_edge c o htick, if_pos ⟨hlast, hne⟩]

theorem directTiming_of_no_reading (htick : f.tick ≠ 0) (h : f.lastEdge = 0 ∨ f.lastEdge = f.tick) :
    directTiming c f o true = ({ f with lastEdge := f.tick }, o) := by
  rw [directTiming_of_edge c o htick, if_neg (by tauto)]

end

/-! ### What tracking leaves alone -/

/-- A reading updates the estimate and the outlier accumulator alone (45 R173 to R175). -/
theorem updatePeriod_frame (c : ConfigRegs) (m : Nat) (f : FsmState) :
    (updatePeriod c m f).stage = f.stage ∧ (updatePeriod c m f).synced = f.synced ∧ (updatePeriod c m f).tick = f.tick ∧
    (updatePeriod c m f).lastEdge = f.lastEdge ∧ (updatePeriod c m f).phOfs = f.phOfs := by
  have houtlier : (outlierPeriod c m f).stage = f.stage ∧ (outlierPeriod c m f).synced = f.synced ∧
      (outlierPeriod c m f).tick = f.tick ∧ (outlierPeriod c m f).lastEdge = f.lastEdge ∧
      (outlierPeriod c m f).phOfs = f.phOfs := by
    unfold outlierPeriod
    dsimp only
    split <;> exact ⟨rfl, rfl, rfl, rfl, rfl⟩
  unfold updatePeriod
  split
  · exact ⟨rfl, rfl, rfl, rfl, rfl⟩
  · split
    · exact ⟨rfl, rfl, rfl, rfl, rfl⟩
    · exact houtlier

/-- Direct timing leaves the stage, the compensation's registers, the tick and the phase alone (45 R170, R176). -/
theorem directTiming_frame (c : ConfigRegs) (f : FsmState) (o : OscState) (edge : Bool) :
    (directTiming c f o edge).1.stage = f.stage ∧ (directTiming c f o edge).1.synced = f.synced ∧
    (directTiming c f o edge).1.tick = f.tick ∧ (directTiming c f o edge).1.phOfs = f.phOfs ∧
    (directTiming c f o edge).2.phase = o.phase := by
  obtain ⟨hstage, hsynced, htick, -, hphOfs⟩ := updatePeriod_frame c (reading (edgeInterval f)) f
  unfold directTiming
  split
  · dsimp only
    split
    · exact ⟨hstage, hsynced, htick, hphOfs, rfl⟩
    · exact ⟨rfl, rfl, rfl, rfl, rfl⟩
  · exact ⟨rfl, rfl, rfl, rfl, rfl⟩

/-- In either mode tracking leaves those registers alone (45 R166 steps 3 and 4). -/
theorem trackVariant_frame (e : Bool) (s : State) :
    (trackVariant e s).fsm.stage = s.fsm.stage ∧ (trackVariant e s).fsm.synced = s.fsm.synced ∧
    (trackVariant e s).fsm.tick = s.fsm.tick ∧ (trackVariant e s).fsm.phOfs = s.fsm.phOfs ∧
    (trackVariant e s).osc.phase = s.osc.phase := by
  cases hmode : directMode s.cfg with
  | true =>
    rw [trackVariant_direct e s hmode]
    exact directTiming_frame s.cfg s.fsm s.osc e
  | false =>
    rw [trackVariant_pll_mode e s hmode]
    exact ⟨rfl, rfl, rfl, rfl, rfl⟩

@[simp] theorem track_tick (e : Bool) (s : State) : (track e s).fsm.tick = s.fsm.tick := by
  obtain ⟨-, -, htick, -, -⟩ := trackVariant_frame e s
  rw [track, compensateAt_tick, htick]

/-! ### The compensation -/

/-- The period of the compensation, as the registers of either mode give it (44 R158, 45 R177). -/
theorem trackedPeriod_eq_ite (s : State) :
    trackedPeriod s = if s.cfg.mode.getLsbD 0 then (s.fsm.periodEst.toNat + 32768) / 65536
      else if s.osc.freq.toNat = 0 then 0 else 4294967296 / s.osc.freq.toNat := by
  cases hmode : s.cfg.mode.getLsbD 0 with
  | true => exact trackedPeriod_direct hmode
  | false =>
    rw [trackedPeriod_pll hmode, pllPeriod]
    simp only [Nat.pos_iff_ne_zero, ite_not, Bool.false_eq_true, if_false]

theorem delaySamples_bounds (c : ConfigRegs) {period : Nat} (h : 0 < period) :
    1 ≤ delaySamples c period ∧ delaySamples c period ≤ period := by
  have hlt : c.latency.toNat % period < period := Nat.mod_lt _ h
  unfold delaySamples
  omega

section
variable {s : State}

/-- Without an edge, or without a period, nothing is compensated (45 R166 step 5). -/
theorem compensateAt_of_not {e : Bool} (h : ¬(e = true ∧ 0 < trackedPeriod s)) : compensateAt e s = s :=
  if_neg (by simpa using h)

/-- At an edge with a period the compensation is made with that period. -/
theorem compensateAt_of_edge (h : 0 < trackedPeriod s) :
    compensateAt true s =
      { s with
        fsm := (compensate s.cfg (trackedPeriod s) s.fsm s.osc).1
        osc := (compensate s.cfg (trackedPeriod s) s.fsm s.osc).2 } :=
  if_pos (by simpa using h)

theorem compensateAt_synced (h : 0 < trackedPeriod s) : (compensateAt true s).fsm.synced = true := by
  rw [compensateAt_of_edge h]
  rfl

theorem compensateAt_phOfs (h : 0 < trackedPeriod s) :
    (compensateAt true s).fsm.phOfs = targetPhase s.cfg s.osc (trackedPeriod s) := by
  rw [compensateAt_of_edge h]
  rfl

/-- The first compensation sets the phase (45 R179). -/
theorem compensateAt_phase_of_not_synced (h : 0 < trackedPeriod s) (hsynced : s.fsm.synced = false) :
    (compensateAt true s).osc.phase = targetPhase s.cfg s.osc (trackedPeriod s) := by
  simp [compensateAt_of_edge h, compensate, hsynced, oscSetPhase]

/-- A later one nudges it (45 R180). -/
theorem compensateAt_phase_of_synced (h : 0 < trackedPeriod s) (hsynced : s.fsm.synced = true) :
    (compensateAt true s).osc.phase =
      s.osc.phase +
        u32 ((targetPhase s.cfg s.osc (trackedPeriod s) - s.osc.phase).toInt / 2 ^ s.cfg.syncShift.toNat) := by
  simp [compensateAt_of_edge h, compensate, hsynced, oscSyncPhase, shr_eq_div, s32]

end

/-! ### The tracked sample -/

/-- The state in which the tracking of a sample begins: after the conditioner and the trigger, and after the onset if the sample
leaves Stopped (45 R182). -/
def trackingStart (x : Word) (s : State) : State :=
  if s.fsm.stage = .stopped then onset (afterFront x s) else afterFront x s

@[simp] theorem trackingStart_osc (x : Word) (s : State) : (trackingStart x s).osc = s.osc := by
  unfold trackingStart; split <;> rfl

@[simp] theorem trackingStart_fsm (x : Word) (s : State) : (trackingStart x s).fsm = s.fsm := by
  unfold trackingStart; split <;> rfl

@[simp] theorem trackingStart_cfg (x : Word) (s : State) : (trackingStart x s).cfg = s.cfg := by
  unfold trackingStart; split <;> rfl

/-- The stage a tracked sample ends in: Running if it began there, or if the origin of a set phase has come (45 R185). -/
def trackedStage (st : Stage) (u : State) : Stage :=
  if st = .running ∨ (u.fsm.synced = true ∧ oscAtOrigin u.osc = true) then .running else .waiting

theorem trackedStage_ne_stopped (st : Stage) (u : State) : trackedStage st u ≠ .stopped := by
  unfold trackedStage; split <;> simp

theorem sampleExit_waiting_eq_finish (w : Word → Int) (u : State) :
    sampleExit w .waiting false u =
      finish w (if u.fsm.synced = true ∧ oscAtOrigin u.osc = true then .running else .waiting) u := by
  rw [sampleExit_waiting]
  simp only [Bool.and_eq_true]
  exact (apply_ite (finish w · u) ..).symm

/-- A sample with activity that does not find the machine in Releasing is tracked, and sounds or waits on (45 R166). -/
theorem sampleState_tracked (w : Word → Int) {x : Word} {s : State} (hst : s.fsm.stage ≠ .releasing)
    (ha : activity x s = true) :
    sampleState w x s =
      finish w (trackedStage s.fsm.stage (track (edgeOf x s) (trackingStart x s)))
        (track (edgeOf x s) (trackingStart x s)) := by
  cases hs : s.fsm.stage with
  | stopped => simp [sample_onset w hs ha, sampleExit_waiting_eq_finish, trackedStage, trackingStart, hs]
  | waiting => simp [sample_waiting w hs ha, sampleExit_waiting_eq_finish, trackedStage, trackingStart, hs]
  | running => simp [sample_running w hs ha, trackedStage, trackingStart, hs]
  | releasing => exact absurd hs hst

/-! ### How a sample ends -/

/-- The four kinds of samples, by the stage, the activity and, in Releasing, the oscillator (45 R166). -/
theorem sample_kinds (x : Word) (s : State) :
    (s.fsm.stage = .stopped ∧ activity x s = false) ∨
    ((s.fsm.stage = .waiting ∧ activity x s = false) ∨
      (s.fsm.stage = .releasing ∧ (s.osc.phase.toNat < s.osc.freq.toNat ∨ s.osc.freq = 0))) ∨
    ((s.fsm.stage = .running ∧ activity x s = false) ∨
      (s.fsm.stage = .releasing ∧ ¬(s.osc.phase.toNat < s.osc.freq.toNat ∨ s.osc.freq = 0))) ∨
    (s.fsm.stage ≠ .releasing ∧ activity x s = true) := by
  cases hs : s.fsm.stage with
  | releasing => simpa only [reduceCtorEq, false_and, ne_eq, not_true, true_and, false_or, or_false] using Classical.em _
  | stopped => cases activity x s <;> simp
  | waiting => cases activity x s <;> simp
  | running => cases activity x s <;> simp

/-- Releasing ends at the origin or at standstill (45 R186). -/
theorem releaseEnds_iff (o : OscState) :
    (oscAtOrigin o || o.freq == 0) = true ↔ o.phase.toNat < o.freq.toNat ∨ o.freq = 0 := by
  rw [Bool.or_eq_true, oscAtOrigin_iff, beq_iff_eq]

section
variable (w : Word → Int) {x : Word} {s : State}

/-- The hard cutoff of Waiting, and the end of Releasing at its origin or at standstill (45 R183, R186). -/
theorem sampleState_entersStopped
    (h : (s.fsm.stage = .waiting ∧ activity x s = false) ∨
      (s.fsm.stage = .releasing ∧ (s.osc.phase.toNat < s.osc.freq.toNat ∨ s.osc.freq = 0))) :
    sampleState w x s = emit 0 (enterStopped (afterFront x s)) := by
  obtain ⟨hs, ha⟩ | ⟨hs, hend⟩ := h
  · exact sample_cutoff w hs ha
  · rw [sample_releasing w hs, if_pos ((releaseEnds_iff _).2 hend)]

/-- Running without activity begins to release, and Releasing goes on until it ends (45 R184, R187). -/
theorem sampleState_soundsOn
    (h : (s.fsm.stage = .running ∧ activity x s = false) ∨
      (s.fsm.stage = .releasing ∧ ¬(s.osc.phase.toNat < s.osc.freq.toNat ∨ s.osc.freq = 0))) :
    sampleState w x s = finish w .releasing (afterFront x s) := by
  obtain ⟨hs, ha⟩ | ⟨hs, hgoes⟩ := h
  · exact sample_release w hs ha
  · rw [sample_releasing w hs, if_neg (mt (releaseEnds_iff _).1 hgoes)]

/-- Every sample ends in Stopped and emits 0, or in another stage and emits what that stage sounds; until then `TICK` stands
(45 R188, R190). -/
theorem sampleState_ends (x : Word) (s : State) :
    ∃ u : State, u.fsm.tick = s.fsm.tick ∧
      ((u.fsm.stage = .stopped ∧ sampleState w x s = emit 0 u) ∨
        ∃ st, st ≠ .stopped ∧ sampleState w x s = finish w st u) := by
  obtain ⟨hs, ha⟩ | hcleared | hreleasing | ⟨hst, ha⟩ := sample_kinds x s
  · exact ⟨afterFront x s, rfl, .inl ⟨hs, sample_stopped_silent w hs ha⟩⟩
  · exact ⟨enterStopped (afterFront x s), rfl, .inl ⟨rfl, sampleState_entersStopped w hcleared⟩⟩
  · exact ⟨afterFront x s, rfl, .inr ⟨.releasing, nofun, sampleState_soundsOn w hreleasing⟩⟩
  · exact ⟨track (edgeOf x s) (trackingStart x s), by simp, .inr ⟨_, trackedStage_ne_stopped _ _, sampleState_tracked w hst ha⟩⟩

end

/-! ### What a sample emits -/

/-- The waveform stays within `-ONE .. ONE`, so `SYNTH` keeps it as it is (41 R106). -/
theorem wave_inQ (p : Word) : InQ (wave p) := by
  unfold wave
  split
  · decide
  · obtain ⟨hlo, hhi⟩ : -Config.one ≤ clamp (s32 (Config.waveRaw p)) (-Config.one) Config.one ∧
        clamp (s32 (Config.waveRaw p)) (-Config.one) Config.one ≤ Config.one := clamp_bounds (by decide)
    exact ⟨le_trans (by decide) hlo, hhi.trans (by decide)⟩

theorem mulq_zero (a : Int) : mulq a 0 = 0 := by
  rw [mulq, Int.mul_zero]
  rfl

/-- Silence is 0 under every gain. -/
theorem emit_zero (s : State) : emit 0 s = { s with out := ⟨0, 0⟩, fsm := { s.fsm with tick := s.fsm.tick + 1 } } := by
  rw [emit, mulq_zero]
  rfl

/-- In Running and Releasing the sample is the waveform at the phase before the advance (45 R188, R189). -/
theorem finish_eq_emit_wave {st : Stage} (h : st = .running ∨ st = .releasing) (s : State) :
    finish wave st s =
      emit (wave s.osc.phase) { s with osc := oscAdvance s.osc, fsm := { s.fsm with stage := st } } := by
  obtain rfl | rfl := h <;> rfl

/-- In Waiting it is 0 (45 R188). -/
theorem finish_waiting (w : Word → Int) (s : State) :
    finish w .waiting s = emit 0 { s with osc := oscAdvance s.osc, fsm := { s.fsm with stage := .waiting } } := rfl

/-- `OUT` is the gain times `SYNTH` as the register holds it (45 R190). -/
theorem emit_out_eq_mulq {v : Int} (hv : InQ v) (s : State) :
    (emit v s).out.out = u32 (mulq (s32 s.reg.gain) (s32 (emit v s).out.synth)) := by
  rw [emit_out, s32_u32 hv]

/-- So it is after every sample. -/
theorem sampleState_out_eq_mulq (x : Word) (s : State) :
    (sampleState wave x s).out.out = u32 (mulq (s32 s.reg.gain) (s32 (sampleState wave x s).out.synth)) := by
  rw [← sampleState_reg wave x s]
  obtain ⟨u, -, ⟨-, h⟩ | ⟨st, -, h⟩⟩ := sampleState_ends wave x s <;> rw [h]
  · exact emit_out_eq_mulq (by decide) u
  · cases st with
    | stopped => exact emit_out_eq_mulq (v := 0) (by decide) _
    | waiting => exact emit_out_eq_mulq (v := 0) (by decide) _
    | running => exact emit_out_eq_mulq (wave_inQ _) _
    | releasing => exact emit_out_eq_mulq (wave_inQ _) _

theorem sampleState_tick (w : Word → Int) (x : Word) (s : State) : (sampleState w x s).fsm.tick = s.fsm.tick + 1 := by
  obtain ⟨u, htick, ⟨-, h⟩ | ⟨st, -, h⟩⟩ := sampleState_ends w x s <;> rw [h, ← htick] <;> rfl

/-! ### What `SAMPLE` answers -/

theorem decode_sample (x : Word) : decode (0x1#4 ++ 0#4 ++ 0#8 ++ x) = .command (.sample x) := by
  change decode (packWord 0x1#4 0#8 x) = _
  rw [decode_eq_command_iff]
  simp [instrOfOp, fieldViolation, opUsesIdx, opUsesData]

/-- In RUN mode `SAMPLE` answers `OUT`, in the state of 45 R166 (45 R190). -/
theorem exec_sample_run {x : Word} {s : State} (hrun : s.run = true) :
    exec (.sample x) s = .next (answered (sampleState wave x s).out.out (sampleState wave x s)) := by
  rw [exec_sample, needRun_true hrun]
  rfl

theorem exec_sample_config {x : Word} {s : State} (hrun : s.run = false) :
    exec (.sample x) s = .next (afterError 5 0 s) := by
  rw [exec_sample, needRun_false hrun]
  exact raiseError_eq_afterError .notRun 0 s

section
variable {x : Word} {s t : State} (hrun : s.run = true) (ht : exec (.sample x) s = .next t)
  (hst : s.fsm.stage ≠ .releasing) (ha : activity x s = true)
include hrun ht hst ha

/-- A tracked `SAMPLE` leaves what the tracking left, with the stage written, the tick counted and the phase advanced. -/
theorem exec_sample_tracked :
    t.fsm = { (track (edgeOf x s) (trackingStart x s)).fsm with
      stage := trackedStage s.fsm.stage (track (edgeOf x s) (trackingStart x s)), tick := s.fsm.tick + 1 } ∧
    t.osc = oscAdvance (track (edgeOf x s) (trackingStart x s)).osc := by
  rw [exec_sample_next hrun ht, respond_fsm, respond_osc, sampleState_tracked wave hst ha, finish_fsm, finish_osc, track_tick,
    trackingStart_fsm]
  exact ⟨rfl, rfl⟩

/-- The registers of the compensation after a tracked `SAMPLE` are those of `compensateAt` on the state `v` that the variant's
tracking leaves, of which the variant has written the estimate and the frequency alone. -/
theorem exec_sample_compensated :
    ∃ v : State, v.cfg = s.cfg ∧ v.fsm.synced = s.fsm.synced ∧ v.fsm.phOfs = s.fsm.phOfs ∧ v.osc.phase = s.osc.phase ∧
      v.fsm.periodEst = t.fsm.periodEst ∧ v.osc.freq = t.osc.freq ∧
      t.fsm.synced = (compensateAt (edgeOf x s) v).fsm.synced ∧ t.fsm.phOfs = (compensateAt (edgeOf x s) v).fsm.phOfs ∧
      t.osc.phase - t.osc.freq = (compensateAt (edgeOf x s) v).osc.phase := by
  obtain ⟨hfsm, hosc⟩ := exec_sample_tracked hrun ht hst ha
  obtain ⟨-, hsynced, -, hphOfs, hphase⟩ := trackVariant_frame (edgeOf x s) (trackingStart x s)
  rw [hfsm, hosc, oscAdvance_freq, oscAdvance_phase_sub_freq, track]
  exact ⟨trackVariant (edgeOf x s) (trackingStart x s), by simp, by rw [hsynced, trackingStart_fsm],
    by rw [hphOfs, trackingStart_fsm], by rw [hphase, trackingStart_osc], (compensateAt_periodEst ..).symm,
    (compensateAt_freq ..).symm, rfl, rfl, rfl⟩

/-- The origin test of a tracked `SAMPLE`, from the registers it leaves (45 R185). -/
theorem exec_sample_tracked_stage :
    t.fsm.stage =
      if s.fsm.stage = .running ∨ (t.fsm.synced = true ∧ (t.osc.phase - t.osc.freq).toNat < t.osc.freq.toNat)
      then .running else .waiting := by
  obtain ⟨hfsm, hosc⟩ := exec_sample_tracked hrun ht hst ha
  simp only [hfsm, hosc, oscAdvance_freq, oscAdvance_phase_sub_freq, trackedStage, oscAtOrigin_iff]

end

/-! ### What the other commands leave of the state machine -/

/-- Whatever state the outcome is, its state machine is that of `s`. -/
def KeepsFsm (s : State) (o : Host.Outcome State Fault Refusal) : Prop := ∀ t, o = .next t → t.fsm = s.fsm

theorem keepsFsm_succeed {s u : State} (d : Word) (h : u.fsm = s.fsm) : KeepsFsm s (succeed d u) :=
  fun _ ht => by rw [succeed_next ht, respond_fsm, h]

theorem keepsFsm_raiseError (s : State) (e : ErrCode) (d : Word) : KeepsFsm s (raiseError e d s) :=
  fun _ ht => by rw [raiseError_next ht, respond_fsm, recordError_fsm]

theorem keepsFsm_needRun {s : State} {k : Host.Outcome State Fault Refusal} (hk : KeepsFsm s k) : KeepsFsm s (needRun s k) := by
  cases hr : s.run with
  | true => rwa [needRun_true hr]
  | false => rw [needRun_false hr]; exact keepsFsm_raiseError _ _ _

theorem keepsFsm_needConfig {s : State} {k : Host.Outcome State Fault Refusal} (hk : KeepsFsm s k) :
    KeepsFsm s (needConfig s k) := by
  cases hr : s.run with
  | false => rwa [needConfig_false hr]
  | true => rw [needConfig_true hr]; exact keepsFsm_raiseError _ _ _

theorem keepsFsm_wrcfg (k : BitVec 8) (v : Word) (s : State) : KeepsFsm s (execWrcfg k v s) := by
  refine keepsFsm_needConfig ?_
  split
  · exact keepsFsm_succeed _ rfl
  · exact keepsFsm_raiseError _ _ _

theorem keepsFsm_rdreg (k : BitVec 8) (s : State) : KeepsFsm s (execRdreg k s) := by
  unfold execRdreg
  split
  · exact keepsFsm_succeed _ rfl
  · exact keepsFsm_raiseError _ _ _

theorem keepsFsm_start (s : State) : KeepsFsm s (execStart s) := by
  refine keepsFsm_needConfig ?_
  split
  · exact keepsFsm_succeed _ rfl
  · exact keepsFsm_raiseError _ _ _

/-- No command but `SAMPLE` and `RESET` writes the state machine's registers (45 R167). -/
theorem exec_keepsFsm {i : Instr} (s : State) (hsample : ∀ x, i ≠ .sample x) (hreset : i ≠ .reset) : KeepsFsm s (exec i s) := by
  cases i with
  | nop => exact keepsFsm_succeed _ rfl
  | sample x => exact absurd rfl (hsample x)
  | regulate => exact keepsFsm_needRun (keepsFsm_succeed _ rfl)
  | settgt v => exact keepsFsm_succeed _ rfl
  | wrcfg k v => exact keepsFsm_wrcfg k v s
  | rdreg k => exact keepsFsm_rdreg k s
  | start => exact keepsFsm_start s
  | rginit => exact keepsFsm_needRun (keepsFsm_succeed _ rfl)
  | reset => exact absurd rfl hreset

/-! ### The statements -/

/-- Settles O47: direct timing without an edge, with an edge that makes no reading, and with one that does. -/
theorem edgesAreRecorded : Obligations.EdgesAreRecorded := by
  intro c f o edge
  refine ⟨directTiming_of_no_edge c o, ?_, ?_, ?_⟩ <;> rintro rfl htick
  · exact fun hfirst => directTiming_of_no_reading c o htick (.inl hfirst)
  · intro hlast hne
    rw [directTiming_of_reading c o htick hlast hne, edgeInterval_eq_mod]
  · intro hsame
    rw [directTiming_of_no_reading c o htick (.inr hsame), set_lastEdge_self hsame]

/-- Settles O30: the response is `OUT`, and whatever the sample emits, `OUT` is made of `SYNTH` and the tick is counted. -/
theorem sampleCompletesAndAnswersOut : Obligations.SampleCompletesAndAnswersOut := by
  refine fun x s => ⟨decode_sample x, exec_sample_config, fun hrun => ⟨_, exec_sample_run hrun, rfl, ?_⟩⟩
  exact ⟨sampleState_out_eq_mulq x s, sampleState_tick wave x s, sampleState_reg .., sampleState_run .., sampleState_err ..,
    sampleState_target .., sampleState_cfg .., sampleState_host ..⟩

/-- Settles O34: such a sample is the front end and a silent end. -/
theorem stoppedSampleWithoutActivity : Obligations.StoppedSampleWithoutActivity := by
  intro x s hrun hs ha
  rw [exec_sample_run hrun, sample_stopped_silent wave hs ha, emit_zero, ← ha]
  rfl

/-- Settles O35: both entries to Stopped clear the same registers and end silently. -/
theorem entryToStoppedClears : Obligations.EntryToStoppedClears := by
  intro x s hrun hentry
  rw [exec_sample_run hrun, sampleState_entersStopped wave hentry, emit_zero]
  rfl

/-- Settles O33: a sample that ends in Stopped or Waiting emits 0; any other emits the waveform at the phase that the advance
then moves. -/
theorem outputFollowsTheStage : Obligations.OutputFollowsTheStage := by
  intro x s t hrun ht
  rw [exec_sample_next hrun ht]
  simp only [respond_fsm, respond_out, respond_osc]
  obtain ⟨u, -, ⟨hstop, h⟩ | ⟨st, hst, h⟩⟩ := sampleState_ends wave x s <;> rw [h]
  · rw [emit_zero]
    exact ⟨fun _ => ⟨rfl, rfl⟩, by simp [hstop]⟩
  · rw [finish_fsm, finish_osc, oscAdvance_freq, oscAdvance_phase_sub_freq]
    refine ⟨fun hsilent => ?_, fun hsounds => ?_⟩
    · obtain rfl : st = .waiting := hsilent.resolve_left hst
      rw [finish_waiting, emit_zero]
      exact ⟨rfl, rfl⟩
    · rw [finish_eq_emit_wave hsounds, emit_out]
      exact s32_u32 (wave_inQ _)

/-- Settles O32: row by row of 45 R167, the two rows out of Stopped and Waiting with activity being those of a tracked sample; no
other command writes the stage. -/
theorem stageTransitionsAreTheTable : Obligations.StageTransitionsAreTheTable := by
  refine ⟨fun x s t hrun ht => ?_, fun i s t ht hsample hreset => by rw [exec_keepsFsm s hsample hreset t ht]⟩
  have hgate : t.agc.gate = activity x s := by rw [exec_sample_agc hrun ht]
  have hstage {r : State} (h : sampleState wave x s = r) : t.fsm.stage = r.fsm.stage := by
    rw [exec_sample_next hrun ht, respond_fsm, h]
  rw [hgate]
  refine ⟨fun hs ha => (hstage (sample_stopped_silent wave hs ha)).trans hs,
    fun hs ha => hstage (sampleState_entersStopped wave (.inl ⟨hs, ha⟩)), fun hs ha => ?_,
    fun hs ha => hstage (sampleState_soundsOn wave (.inl ⟨hs, ha⟩)), fun hs ha => hstage (sample_running wave hs ha),
    fun hs => ?_⟩
  · have hnot : s.fsm.stage ≠ .releasing ∧ s.fsm.stage ≠ .running := by obtain hs | hs := hs <;> simp [hs]
    have htracked := exec_sample_tracked_stage hrun ht hnot.1 ha
    split
    next hsounds => exact htracked.trans (if_pos (.inr hsounds))
    next hwaits => exact htracked.trans (if_neg (not_or.2 ⟨hnot.2, hwaits⟩))
  · split
    next hend => exact hstage (sampleState_entersStopped wave (.inr ⟨hs, hend⟩))
    next hgoes => exact hstage (sampleState_soundsOn wave (.inr ⟨hs, hgoes⟩))

/-- Settles O37: a tracked sample is the tracking of the variant, which leaves `SYNCED`, `PH_OFS` and `PHASE` alone, then the
compensation, then the advance. -/
theorem phaseIsCompensatedAtEdges : Obligations.PhaseIsCompensatedAtEdges := by
  intro x s t hrun ht hgate hst period delay target before
  have ha : activity x s = true := by rw [← hgate, exec_sample_agc hrun ht]
  have hedge : (t.trg.trig = true ∧ s.trg.trig = false) ↔ edgeOf x s = true := by
    rw [exec_sample_trg hrun ht, exec_sample_agc hrun ht]
    exact (triggerStep_edge_iff ..).symm
  obtain ⟨v, hcfg, hsynced, hphOfs, hphase, hest, hfreq, htsynced, htphOfs, htphase⟩ :=
    exec_sample_compensated hrun ht hst ha
  have hperiod : trackedPeriod v = period := by rw [trackedPeriod_eq_ite, hcfg, hest, hfreq]
  have htarget : targetPhase v.cfg v.osc (trackedPeriod v) = target := by
    rw [targetPhase, delaySamples, hperiod, hcfg, hfreq]
  have hcond : (t.trg.trig = true ∧ s.trg.trig = false) ∧ 0 < period ↔ edgeOf x s = true ∧ 0 < trackedPeriod v := by
    rw [hedge, hperiod]
  split
  next h =>
    obtain ⟨he, hpos⟩ := hcond.1 h
    rw [he] at htsynced htphOfs htphase
    rw [← htarget, ← hsynced, ← hphase, ← hcfg]
    refine ⟨?_, htsynced.trans (compensateAt_synced hpos), htphOfs.trans (compensateAt_phOfs hpos),
      fun hfirst => htphase.trans (compensateAt_phase_of_not_synced hpos hfirst),
      fun hlater => htphase.trans (compensateAt_phase_of_synced hpos hlater)⟩
    have hdelay : delay = (delaySamples s.cfg period : Nat) := rfl
    rw [hdelay]
    exact_mod_cast delaySamples_bounds s.cfg h.2
  next h =>
    rw [compensateAt_of_not (mt hcond.2 h)] at htsynced htphOfs htphase
    exact ⟨htsynced.trans hsynced, htphOfs.trans hphOfs, htphase.trans hphase⟩

end Sys2Proof.Proofs
end

section
/-! SUPPORT. 46_level_regulator.md: `REGULATE` (R201 to R207) and `RGINIT` (R209). First what a command of RUN mode answers in
each mode and why the clamped gain fits its register; then the statements. -/

namespace Sys2Proof.Proofs

open Sys2Proof.Machine

/-! ### A command of RUN mode -/

theorem exec_regulate (s : State) : exec .regulate s =
    needRun s (succeed (u32 (gainAdjust s.cfg s.reg (levelError s)))
      { s with reg := levelStep s.cfg s.reg (levelError s) }) := rfl

theorem exec_rginit (s : State) : exec .rginit s = needRun s (succeed 0 { s with reg := ⟨0, 0, 0⟩ }) := rfl

/-- A command of RUN mode given in CONFIG mode is `ERR_NOTRUN` (60 R243). -/
theorem needRun_config {s : State} (hrun : s.run = false) (k : Host.Outcome State Fault Refusal) :
    needRun s k = .next (afterError 5 0 s) := by
  rw [needRun_false hrun]
  exact raiseError_eq_afterError .notRun 0 s

/-- A command of RUN mode that succeeds leaves its new state, with its result on the response port (30 R58). -/
theorem needRun_run {s : State} (hrun : s.run = true) (data : Word) (u : State) :
    needRun s (succeed data u) = .next (answered data u) := by
  rw [needRun_true hrun]
  rfl

/-! ### The gain -/

/-- A value between 0 and what a register holds is in the range of Q8.24. -/
theorem inQ_of_nonneg_of_le_s32 {v : Int} {w : Word} (hlo : 0 ≤ v) (hhi : v ≤ s32 w) : InQ v :=
  ⟨le_trans (by decide) hlo, hhi.trans (s32_inQ w).2⟩

/-- Under a `MAX_GAIN` that is not negative the clamped gain fits its register, so storing it does not wrap (46 R207). -/
theorem s32_levelStep_gain {c : ConfigRegs} (hmax : 0 ≤ s32 c.maxGain) (r : LevelState) (e : Int) :
    s32 (levelStep c r e).gain = clamp (s32 r.gain + gainAdjust c r e) 0 (s32 c.maxGain) := by
  obtain ⟨hlo, hhi⟩ := clamp_bounds (v := s32 r.gain + gainAdjust c r e) hmax
  exact s32_u32 (inQ_of_nonneg_of_le_s32 hlo hhi)

/-! ### The statements -/

/-- Settles O28: the formulas are `gainAdjust` and `levelStep` on the error of 46 R202, and the bounds are those of the clamp,
which storing the gain keeps. -/
theorem regulateFollowsThePid : Obligations.RegulateFollowsThePid := by
  intro s c e p integ i d adj gain
  have hadj : gainAdjust c s.reg (levelError s) = adj := rfl
  have hstep : levelStep c s.reg (levelError s) = ⟨u32 integ, u32 e, u32 gain⟩ := rfl
  refine ⟨by decide, fun hconfig => ?_, fun hrun => ?_, fun hmax => ⟨?_, clamp_bounds hmax⟩⟩
  · rw [exec_regulate, needRun_config hconfig]
  · rw [exec_regulate, needRun_run hrun, hadj, hstep]
  · exact s32_levelStep_gain hmax s.reg e

/-- Settles O27: a command of RUN mode that answers 0 and writes the three registers of the regulator. -/
theorem rginitClearsTheRegulator : Obligations.RginitClearsTheRegulator := by
  refine fun s => ⟨by decide, fun hrun => ?_, fun hconfig => ?_⟩
  · rw [exec_rginit, needRun_run hrun]
  · rw [exec_rginit, needRun_config hconfig]

end Sys2Proof.Proofs
end

section
/-! SUPPORT. 47_host_commands.md: `NOP` (R215), `WRCFG` (R216), `RDREG` (R217), `START` (R218) and the bitmap of its checks
(R226). First the register map as a list and the bitmap bit by bit; then what each command answers in each mode; then the
statements. -/

namespace Sys2Proof.Proofs

open Sys2Proof.Machine

/-! ### The configuration registers in the order of their indices -/

/-- The configuration registers as a list: place `k` is index `k` (10 R21). A write to one index then leaves the others by
the rule for lists, with no case per pair of indices. -/
def cfgWords (c : ConfigRegs) : List Word :=
  [c.sps, c.latency, c.startPhase, c.mode, c.dcA, c.lpALo, c.lpAHi, c.envAtt, c.envRel, c.gateLo, c.gateHi, c.agcGmax,
    c.trigDecay, c.trigSens, c.trigHyst, c.pllShifts, c.perA, c.outlierN, c.syncShift, c.pidKp, c.pidKi, c.pidKd, c.pidDt,
    c.pidRate, c.maxGain]

@[simp] theorem length_cfgWords (c : ConfigRegs) : (cfgWords c).length = 25 := rfl

theorem cfgRead_eq_getElem? (c : ConfigRegs) (k : BitVec 8) : cfgRead c k = (cfgWords c)[k.toNat]? := by
  unfold cfgRead
  split
  case h_26 =>
    have habove : 25 ≤ k.toNat := by simp only [imp_false] at *; bv_omega
    exact (List.getElem?_eq_none habove).symm
  all_goals rfl

theorem cfgRead_eq_none_iff (c : ConfigRegs) (k : BitVec 8) : cfgRead c k = none ↔ 0x18 < k.toNat := by
  rw [cfgRead_eq_getElem?, List.getElem?_eq_none_iff, length_cfgWords, Nat.succ_le_iff]

theorem cfgWrite_eq_none_iff (c : ConfigRegs) (k : BitVec 8) (v : Word) : cfgWrite c k v = none ↔ 0x18 < k.toNat := by
  unfold cfgWrite
  split
  case h_26 => simp only [imp_false, true_iff] at *; bv_omega
  all_goals simp

/-- A write replaces the word at its index (47 R216). -/
theorem cfgWords_cfgWrite {c c' : ConfigRegs} {k : BitVec 8} {v : Word} (h : cfgWrite c k v = some c') :
    cfgWords c' = (cfgWords c).set k.toNat v := by
  unfold cfgWrite at h
  split at h <;> cases h <;> rfl

theorem cfgRead_cfgWrite_same {c c' : ConfigRegs} {k : BitVec 8} {v : Word} (h : cfgWrite c k v = some c') :
    cfgRead c' k = some v := by
  have hmapped : ¬ 0x18 < k.toNat := by rw [← cfgWrite_eq_none_iff c k v, h]; nofun
  rw [cfgRead_eq_getElem?, cfgWords_cfgWrite h, List.getElem?_set_self (by rw [length_cfgWords]; omega)]

theorem cfgRead_cfgWrite_other {c c' : ConfigRegs} {j k : BitVec 8} {v : Word} (h : cfgWrite c k v = some c') (hj : j ≠ k) :
    cfgRead c' j = cfgRead c j := by
  have hplace : k.toNat ≠ j.toNat := fun he => hj (BitVec.eq_of_toNat_eq he.symm)
  rw [cfgRead_eq_getElem?, cfgRead_eq_getElem?, cfgWords_cfgWrite h, List.getElem?_set_ne hplace]

/-! ### The mapped indices -/

theorem dataRead_eq_none_iff (s : State) (k : BitVec 8) :
    dataRead s k = none ↔ ¬(k.toNat = 0x20 ∨ (0x40 ≤ k.toNat ∧ k.toNat ≤ 0x55)) := by
  unfold dataRead
  split
  case h_24 => simp only [imp_false, true_iff] at *; bv_omega
  all_goals simp

/-- The unmapped indices of 20 R44: no register of 10 R21 and no other of 10 R22. -/
theorem regRead_eq_none_iff (s : State) (k : BitVec 8) :
    regRead s k = none ↔ ¬(k.toNat ≤ 0x18 ∨ k.toNat = 0x20 ∨ (0x40 ≤ k.toNat ∧ k.toNat ≤ 0x55)) := by
  have hsplit : regRead s k = none ↔ cfgRead s.cfg k = none ∧ dataRead s k = none := by
    unfold regRead
    split <;> simp [*]
  rw [hsplit, cfgRead_eq_none_iff, dataRead_eq_none_iff, not_or (p := k.toNat ≤ 0x18), not_le]

/-! ### The bitmap of failed checks -/

/-- Bit `k` of the number is entry `k` of the list, and past its end 0. -/
theorem testBit_bitmapOf (l : List Bool) (k : Nat) : (bitmapOf l).testBit k = l[k]?.getD false := by
  induction l generalizing k with
  | nil => exact Nat.zero_testBit k
  | cons b bs ih =>
    have hbit : bitmapOf (b :: bs) = Nat.bit b (bitmapOf bs) := by rw [Nat.bit_val, bitmapOf, Nat.add_comm]
    cases k with
    | zero => rw [hbit, Nat.testBit_bit_zero]; rfl
    | succ k => rw [hbit, Nat.testBit_bit_succ, ih]; rfl

/-- Bit `k` of `bad` is check `k` (47 R226); the thirteen checks fit a word. -/
theorem badConfig_getLsbD (c : ConfigRegs) (k : Nat) : (badConfig c).getLsbD k = (failedChecks c)[k]?.getD false := by
  rw [badConfig, BitVec.getLsbD_ofNat, testBit_bitmapOf]
  by_cases hk : k < 32
  · rw [decide_eq_true hk, Bool.true_and]
  · have hpast : (failedChecks c).length ≤ k := le_trans (by decide : 13 ≤ 32) (not_lt.1 hk)
    rw [decide_eq_false hk, Bool.false_and, List.getElem?_eq_none hpast]
    rfl

theorem badCoeff_iff (w : Word) : badCoeff w = true ↔ s32 w < 0 ∨ 16777216 < s32 w :=
  Bool.or_eq_true_iff.trans (or_congr decide_eq_true_iff decide_eq_true_iff)

/-- Check 3 names the coefficients of 10 R21. -/
theorem anyBadCoeff_iff (c : ConfigRegs) : anyBadCoeff c = true ↔
    ∃ w ∈ [c.dcA, c.lpALo, c.lpAHi, c.envAtt, c.envRel, c.trigDecay, c.trigSens, c.perA], s32 w < 0 ∨ 16777216 < s32 w := by
  simp [anyBadCoeff, badCoeff_iff, or_assoc]

/-- A field of a word is not 0, said of the word as a number. -/
theorem extractLsb'_bne_zero_iff (w : Word) (start len : Nat) :
    (w.extractLsb' start len != 0#len) = true ↔ w.toNat / 2 ^ start % 2 ^ len ≠ 0 := by
  rw [bne_iff_ne, ne_eq, BitVec.toNat_eq, BitVec.extractLsb'_toNat, Nat.shiftRight_eq_div_pow, BitVec.toNat_zero]

/-- The same of a field that reaches the top of the word. -/
theorem extractLsb'_top_bne_zero_iff (w : Word) {start len : Nat} (htop : start + len = 32) :
    (w.extractLsb' start len != 0#len) = true ↔ w.toNat / 2 ^ start ≠ 0 := by
  have hlt : w.toNat / 2 ^ start < 2 ^ len := by
    rw [Nat.div_lt_iff_lt_mul (Nat.two_pow_pos start), ← pow_add, Nat.add_comm, htop]
    exact w.isLt
  rw [extractLsb'_bne_zero_iff, Nat.mod_eq_of_lt hlt]

theorem beq_zero_iff_toNat (w : Word) : (w == 0) = true ↔ w.toNat = 0 := by
  rw [beq_iff_eq, BitVec.toNat_eq]; rfl

/-! ### Words built from their fields -/

/-- A word built from fields is the command of its opcode when the fields that opcode does not use are 0 (30 R57, R59, R62). -/
theorem decode_packWord {op : BitVec 4} {k : BitVec 8} {d : Word} {i : Instr} (hinstr : instrOfOp op k d = some i)
    (hidx : k = 0#8 ∨ opUsesIdx op = true) (hdata : d = 0#32 ∨ opUsesData op = true) :
    decode (packWord op k d) = .command i := by
  rw [decode_eq_command_iff, opField_packWord, idxField_packWord, dataField_packWord, ← Bool.not_eq_true,
    fieldViolation_iff, rsvField_packWord, opField_packWord, idxField_packWord, dataField_packWord]
  refine ⟨hinstr, ?_⟩
  rintro (hrsv | ⟨hk, hunused⟩ | ⟨hd, hunused⟩)
  · exact hrsv rfl
  · exact hidx.elim hk (by simp [hunused])
  · exact hdata.elim hd (by simp [hunused])

theorem decode_wrcfg (k : BitVec 8) (v : Word) : decode (0x4#4 ++ 0#4 ++ k ++ v) = .command (.wrcfg k v) :=
  decode_packWord rfl (.inr rfl) (.inr rfl)

theorem decode_rdreg (k : BitVec 8) : decode (0x5#4 ++ 0#4 ++ k ++ 0#32) = .command (.rdreg k) :=
  decode_packWord rfl (.inr rfl) (.inl rfl)

/-! ### A command of CONFIG mode -/

/-- A command of CONFIG mode given in RUN mode is `ERR_LOCKED` (60 R243). -/
theorem needConfig_run {s : State} (hrun : s.run = true) (k : Host.Outcome State Fault Refusal) :
    needConfig s k = .next (afterError 4 0 s) := by
  rw [needConfig_true hrun]
  exact raiseError_eq_afterError .locked 0 s

theorem exec_wrcfg_run {s : State} (hrun : s.run = true) (k : BitVec 8) (v : Word) :
    exec (.wrcfg k v) s = .next (afterError 4 0 s) :=
  needConfig_run hrun _

theorem exec_wrcfg_written {s : State} {k : BitVec 8} {v : Word} {c : ConfigRegs} (hrun : s.run = false)
    (hc : cfgWrite s.cfg k v = some c) : exec (.wrcfg k v) s = .next (answered 0 { s with cfg := c }) := by
  change needConfig s _ = _
  rw [needConfig_false hrun, hc]
  rfl

theorem exec_wrcfg_unmapped {s : State} {k : BitVec 8} {v : Word} (hrun : s.run = false)
    (hc : cfgWrite s.cfg k v = none) : exec (.wrcfg k v) s = .next (afterError 3 0 s) := by
  change needConfig s _ = _
  rw [needConfig_false hrun, hc]
  exact raiseError_eq_afterError .index 0 s

theorem exec_start (s : State) : exec .start s =
    needConfig s (if badConfig s.cfg = 0 then succeed 0 { s with run := true }
      else raiseError .config (badConfig s.cfg) s) := rfl

theorem exec_start_run {s : State} (hrun : s.run = true) : exec .start s = .next (afterError 4 0 s) :=
  needConfig_run hrun _

theorem exec_start_legal {s : State} (hrun : s.run = false) (hbad : badConfig s.cfg = 0) :
    exec .start s = .next (answered 0 { s with run := true }) := by
  rw [exec_start, needConfig_false hrun, if_pos hbad]
  rfl

theorem exec_start_failed {s : State} (hrun : s.run = false) (hbad : badConfig s.cfg ≠ 0) :
    exec .start s = .next (afterError 6 (badConfig s.cfg) s) := by
  rw [exec_start, needConfig_false hrun, if_neg hbad]
  exact raiseError_eq_afterError .config (badConfig s.cfg) s

/-! ### A command of either mode -/

theorem exec_nop (s : State) : exec .nop s = .next (answered 0 s) := rfl

theorem exec_rdreg_mapped {s : State} {k : BitVec 8} {v : Word} (hv : regRead s k = some v) :
    exec (.rdreg k) s = .next (answered v s) := by
  change execRdreg k s = _
  rw [execRdreg, hv]
  rfl

theorem exec_rdreg_unmapped {s : State} {k : BitVec 8} (hnone : regRead s k = none) :
    exec (.rdreg k) s = .next (afterError 3 0 s) := by
  change execRdreg k s = _
  rw [execRdreg, hnone]
  exact raiseError_eq_afterError .index 0 s

/-! ### The statements -/

/-- Settles O17: the mode check, the index check, and the write as a write to the list of configuration words. -/
theorem wrcfgStoresOneRegister : Obligations.WrcfgStoresOneRegister := by
  intro s k v
  refine ⟨decode_wrcfg k v, fun hrun => exec_wrcfg_run hrun k v, fun hrun habove => ?_, fun hrun hindex => ?_⟩
  · exact exec_wrcfg_unmapped hrun ((cfgWrite_eq_none_iff ..).2 habove)
  · have hmapped : cfgWrite s.cfg k v ≠ none := mt (cfgWrite_eq_none_iff ..).1 (not_lt.2 hindex)
    obtain ⟨c, hc⟩ := Option.ne_none_iff_exists'.1 hmapped
    exact ⟨c, exec_wrcfg_written hrun hc, cfgRead_cfgWrite_same hc, fun j => cfgRead_cfgWrite_other hc⟩

/-- Settles O18: the listed indices are those at which the register map has a word. -/
theorem rdregAnswersTheRegister : Obligations.RdregAnswersTheRegister := by
  refine fun s k => ⟨decode_rdreg k, fun hmapped => ?_, fun hunmapped => ?_⟩
  · have hsome : regRead s k ≠ none := fun hnone => (regRead_eq_none_iff s k).1 hnone hmapped
    obtain ⟨v, hv⟩ := Option.ne_none_iff_exists'.1 hsome
    exact ⟨v, hv, exec_rdreg_mapped hv⟩
  · exact exec_rdreg_unmapped ((regRead_eq_none_iff s k).2 hunmapped)

/-- Settles O21: each bit is its check, and each check read as the condition of 47 R226. -/
theorem badConfigIsTheBitmap : Obligations.BadConfigIsTheBitmap := by
  intro c
  simp only [badConfig_getLsbD]
  refine ⟨?sps, ?latency, ?mode, anyBadCoeff_iff c, ?lpOrder, ?gate, ?agcGmax, ?trigHyst, ?pllShifts, ?outlierN, ?syncShift,
    ?pid, ?maxGain, ?rest⟩
  case sps => exact beq_iff_eq
  case latency => exact beq_iff_eq
  case mode => exact extractLsb'_top_bne_zero_iff c.mode rfl
  case lpOrder => exact decide_eq_true_iff
  case gate => simp [failedChecks, imp_iff_not_or]
  case agcGmax => exact decide_eq_true_iff
  case trigHyst => exact decide_eq_true_iff
  case pllShifts =>
    exact Bool.or_eq_true_iff.trans
      (or_congr (extractLsb'_bne_zero_iff c.pllShifts 5 3) (extractLsb'_top_bne_zero_iff c.pllShifts rfl))
  case outlierN => exact Bool.or_eq_true_iff.trans (or_congr (beq_zero_iff_toNat c.outlierN) decide_eq_true_iff)
  case syncShift => exact decide_eq_true_iff
  case pid => simp [failedChecks, BitVec.toNat_eq, or_assoc]
  case maxGain => exact decide_eq_true_iff
  case rest =>
    intro k hk
    rw [List.getElem?_eq_none (show (failedChecks c).length ≤ k from hk)]
    rfl

/-- Settles O16: op 0 is `NOP`, and a word read as `NOP` is 0, so any other word of op 0 fails the field check. -/
theorem nopChangesNothing : Obligations.NopChangesNothing := by
  refine ⟨exec_nop, by decide, fun w hop hne => ?_⟩
  have hzero : opField w = 0#4 := BitVec.eq_of_toNat_eq ((opField_toNat w).trans hop)
  cases hfield : fieldViolation w with
  | true => exact decode_of_fieldViolation (by simp [hzero]) hfield
  | false =>
    have hnop : decode w = .command .nop := decode_eq_command_iff.2 ⟨(instrOfOp_eq_nop_iff ..).2 hzero, hfield⟩
    exact absurd ((decode_eq_nop_iff w).1 hnop) hne

/-- Settles O23: the mode check, then the bitmap. -/
theorem startLocksOrReports : Obligations.StartLocksOrReports := fun _ =>
  ⟨by decide, exec_start_legal, exec_start_failed, exec_start_run⟩

end Sys2Proof.Proofs
end

section
/-! SUPPORT. 30_encoding.md: `decode` and `encode` are inverse (R57, R59, R62), and the decoder against the rows of the opcode map
(R59). First the words a command's fields make; then the fields of the words a row covers; then the statements. -/

namespace Sys2Proof.Proofs

open Sys2Proof.Machine

/-! ### Decode and encode -/

/-- Every command's word is packed from an opcode that uses the fields it fills (30 R57, R59). -/
theorem decode_encode (i : Instr) : decode (encode i) = .command i := by
  cases i with
  | nop => exact decode_packWord rfl (.inl rfl) (.inl rfl)
  | sample x => exact decode_packWord rfl (.inl rfl) (.inr rfl)
  | regulate => exact decode_packWord rfl (.inl rfl) (.inl rfl)
  | settgt v => exact decode_packWord rfl (.inl rfl) (.inr rfl)
  | wrcfg k v => exact decode_packWord rfl (.inr rfl) (.inr rfl)
  | rdreg k => exact decode_packWord rfl (.inr rfl) (.inl rfl)
  | start => exact decode_packWord rfl (.inl rfl) (.inl rfl)
  | rginit => exact decode_packWord rfl (.inl rfl) (.inl rfl)
  | reset => exact decode_packWord rfl (.inl rfl) (.inl rfl)

/-- Check 2 of 30 R60 passes when the reserved field is 0 and each other field is 0 or used. -/
theorem fieldViolation_eq_false_iff (w : Command) :
    fieldViolation w = false ↔
      rsvField w = 0#4 ∧ (idxField w = 0#8 ∨ opUsesIdx (opField w) = true) ∧
        (dataField w = 0#32 ∨ opUsesData (opField w) = true) := by
  simp [fieldViolation, and_assoc, or_iff_not_imp_left]

/-- The word of the command an opcode stands for is the word of its fields, once the unused ones are 0. -/
theorem encode_of_instrOfOp {op : BitVec 4} {k : BitVec 8} {d : Word} {i : Instr} (hinstr : instrOfOp op k d = some i)
    (hidx : k = 0#8 ∨ opUsesIdx op = true) (hdata : d = 0#32 ∨ opUsesData op = true) : encode i = packWord op k d := by
  unfold instrOfOp at hinstr
  split at hinstr <;> cases hinstr <;> simp_all [encode, opUsesIdx, opUsesData]

/-- The decoder reads a command from that command's word and from no other. -/
theorem decode_eq_command_iff_eq_encode {w : Command} {i : Instr} : decode w = .command i ↔ w = encode i := by
  refine ⟨fun h => ?_, fun h => h ▸ decode_encode i⟩
  obtain ⟨hinstr, hclean⟩ := decode_eq_command_iff.1 h
  obtain ⟨hrsv, hidx, hdata⟩ := (fieldViolation_eq_false_iff w).1 hclean
  rw [encode_of_instrOfOp hinstr hidx hdata, packWord_fields hrsv]

/-! ### The rows of the opcode map -/

/-- Every command's word lies in the row that bears its mnemonic (30 R59). -/
theorem encodesItsRow (i : Instr) : Laws.EncodesItsRow.Statement i := by
  cases i with
  | nop => exact Laws.EncodesItsRow.nop
  | sample x => exact Laws.EncodesItsRow.sample x
  | regulate => exact Laws.EncodesItsRow.regulate
  | settgt v => exact Laws.EncodesItsRow.settgt v
  | wrcfg k v => exact Laws.EncodesItsRow.wrcfg k v
  | rdreg k => exact Laws.EncodesItsRow.rdreg k
  | start => exact Laws.EncodesItsRow.start
  | rginit => exact Laws.EncodesItsRow.rginit
  | reset => exact Laws.EncodesItsRow.reset

theorem mnemonic_injOn_opcodeRows : ∀ r ∈ opcodeRows, ∀ q ∈ opcodeRows, r.mnemonic = q.mnemonic → r = q := by decide

/-- What a row of 30 R59 fixes: its mask takes in the opcode and the reserved field, and each other field unless its opcode uses
it; its pattern has 0 in all it takes in but the opcode. -/
theorem opcodeRow_fields : ∀ r ∈ opcodeRows,
    opField r.mask = BitVec.allOnes 4 ∧ rsvField r.mask = BitVec.allOnes 4 ∧ rsvField r.pattern = 0#4 ∧
    ((idxField r.mask = BitVec.allOnes 8 ∧ idxField r.pattern = 0#8) ∨ opUsesIdx (opField r.pattern) = true) ∧
    ((dataField r.mask = BitVec.allOnes 32 ∧ dataField r.pattern = 0#32) ∨ opUsesData (opField r.pattern) = true) := by
  decide

/-- The opcode of a row stands for a command of its mnemonic, whatever the operands. -/
theorem opcodeRow_instr (k : BitVec 8) (d : Word) :
    ∀ r ∈ opcodeRows, ∃ i, instrOfOp (opField r.pattern) k d = some i ∧ i.mnemonic = r.mnemonic := by
  simp only [opcodeRows, List.forall_mem_cons, List.not_mem_nil, false_imp_iff, implies_true, and_true]
  exact ⟨⟨_, rfl, rfl⟩, ⟨_, rfl, rfl⟩, ⟨_, rfl, rfl⟩, ⟨_, rfl, rfl⟩, ⟨_, rfl, rfl⟩, ⟨_, rfl, rfl⟩, ⟨_, rfl, rfl⟩,
    ⟨_, rfl, rfl⟩, ⟨_, rfl, rfl⟩⟩

/-- A field that a mask takes in whole is the pattern's field. -/
theorem extractLsb'_of_covers {r : OpcodeRow} {w : Command} (h : r.covers w = true) {start len : Nat}
    (hmask : r.mask.extractLsb' start len = BitVec.allOnes len) :
    w.extractLsb' start len = r.pattern.extractLsb' start len := by
  have hw : w &&& r.mask = r.pattern := beq_iff_eq.1 h
  rw [← hw, BitVec.extractLsb'_and, hmask, BitVec.and_allOnes]

/-- A word that a row covers has the row's opcode and passes the field check. -/
theorem fields_of_covers {r : OpcodeRow} (hr : r ∈ opcodeRows) {w : Command} (h : r.covers w = true) :
    opField w = opField r.pattern ∧ fieldViolation w = false := by
  obtain ⟨hopMask, hrsvMask, hrsv, hidx, hdata⟩ := opcodeRow_fields r hr
  have hop : opField w = opField r.pattern := extractLsb'_of_covers h hopMask
  refine ⟨hop, (fieldViolation_eq_false_iff w).2 ⟨(extractLsb'_of_covers h hrsvMask).trans hrsv, ?_, ?_⟩⟩
  · exact hidx.imp (fun ⟨hmask, hzero⟩ => (extractLsb'_of_covers h hmask).trans hzero) (hop ▸ ·)
  · exact hdata.imp (fun ⟨hmask, hzero⟩ => (extractLsb'_of_covers h hmask).trans hzero) (hop ▸ ·)

/-! ### The statements -/

/-- Settles O1: command by command, its opcode uses the fields that `encode` fills. -/
theorem decodeInvertsEncode : Obligations.DecodeInvertsEncode := decode_encode

/-- Settles O2: a word that decodes has 0 in every field its command does not use, so its fields make it up. -/
theorem encodeInvertsDecode : Obligations.EncodeInvertsDecode := fun _ _ h =>
  (decode_eq_command_iff_eq_encode.1 h).symm

/-- Settles O3: a covered word has the row's opcode and clean fields; a word that decodes is its command's word, which lies in the
one row of that mnemonic. -/
theorem decodeFollowsOpcodeMap : Obligations.DecodeFollowsOpcodeMap := by
  refine fun w r hr => ⟨fun hcovers => ?_, fun ⟨i, hdecode, hname⟩ => ?_⟩
  · obtain ⟨hop, hclean⟩ := fields_of_covers hr hcovers
    obtain ⟨i, hinstr, hname⟩ := opcodeRow_instr (idxField w) (dataField w) r hr
    exact ⟨i, decode_eq_command_iff.2 ⟨hop ▸ hinstr, hclean⟩, hname⟩
  · obtain ⟨q, hq, hqname, hcovers⟩ := encodesItsRow i
    rw [mnemonic_injOn_opcodeRows r hr q hq (hname.symm.trans hqname.symm), decode_eq_command_iff_eq_encode.1 hdecode]
    exact hcovers

/-- Settles O6: each word evaluated. -/
theorem writtenOutWordsDecode : Obligations.WrittenOutWordsDecode := by
  unfold Obligations.WrittenOutWordsDecode
  decide

end Sys2Proof.Proofs
end

section
/-! SUPPORT. What a command answers, said once: the error it ends in, if any, and otherwise its result and the state it makes
(30 R60, 60 R236, R243). Then the same of a presented word and of every step. -/

namespace Sys2Proof.Proofs

open Sys2Proof.Machine

/-! ### The error, the result and the effect of a command -/

/-- The checks 3 to 5 of 30 R60, in their order: the error a decoded command ends in, if one of them fails. -/
def errorOf : Instr → State → Option ErrCode
  | .nop, _ => none
  | .sample _, s => if s.run then none else some .notRun
  | .regulate, s => if s.run then none else some .notRun
  | .settgt _, _ => none
  | .wrcfg k _, s => if s.run then some .locked else if 0x18 < k.toNat then some .index else none
  | .rdreg k, _ => if k.toNat ≤ 0x18 ∨ k.toNat = 0x20 ∨ (0x40 ≤ k.toNat ∧ k.toNat ≤ 0x55) then none else some .index
  | .start, s => if s.run then some .locked else if badConfig s.cfg = 0 then none else some .config
  | .rginit, s => if s.run then none else some .notRun
  | .reset, _ => none

/-- The data word of an error response: the bitmap for `ERR_CONFIG`, else 0 (60 R236, 47 R218). -/
def errorInfo (e : ErrCode) (s : State) : Word := if e = .config then badConfig s.cfg else 0

/-- `s` after it has raised the error `e`. -/
def failed (e : ErrCode) (s : State) : State := afterError (errCode e) (errorInfo e s) s

/-- The data word a command answers when no check fails. -/
def resultOf : Instr → State → Word
  | .nop, _ => 0
  | .sample x, s => (sampleState wave x s).out.out
  | .regulate, s => u32 (gainAdjust s.cfg s.reg (levelError s))
  | .settgt _, _ => 0
  | .wrcfg _ _, _ => 0
  | .rdreg k, s => (regRead s k).getD 0
  | .start, _ => 0
  | .rginit, _ => 0
  | .reset, _ => 0

/-- The state a command makes when no check fails, before the response is written. -/
def effectOf : Instr → State → State
  | .nop, s => s
  | .sample x, s => sampleState wave x s
  | .regulate, s => { s with reg := levelStep s.cfg s.reg (levelError s) }
  | .settgt v, s => { s with target := v }
  | .wrcfg k v, s => { s with cfg := (cfgWrite s.cfg k v).getD s.cfg }
  | .rdreg _, s => s
  | .start, s => { s with run := true }
  | .rginit, s => { s with reg := ⟨0, 0, 0⟩ }
  | .reset, s => loadReset s

/-- `s` after a command that no check refuses. -/
def succeeded (i : Instr) (s : State) : State := answered (resultOf i s) (effectOf i s)

/-! ### What `exec` answers -/

theorem exec_wrcfg_eq (k : BitVec 8) (v : Word) (s : State) :
    (∃ e, errorOf (.wrcfg k v) s = some e ∧ exec (.wrcfg k v) s = .next (failed e s)) ∨
    (errorOf (.wrcfg k v) s = none ∧ exec (.wrcfg k v) s = .next (succeeded (.wrcfg k v) s)) := by
  cases hrun : s.run with
  | true => exact .inl ⟨.locked, by simp [errorOf, hrun], exec_wrcfg_run hrun k v⟩
  | false =>
    cases hc : cfgWrite s.cfg k v with
    | none =>
      have habove := (cfgWrite_eq_none_iff s.cfg k v).1 hc
      exact .inl ⟨.index, by simp [errorOf, hrun, habove], exec_wrcfg_unmapped hrun hc⟩
    | some c =>
      have hindex : ¬0x18 < k.toNat := by rw [← cfgWrite_eq_none_iff s.cfg k v, hc]; nofun
      have hsucceeded : succeeded (.wrcfg k v) s = answered 0 { s with cfg := c } := by
        simp only [succeeded, resultOf, effectOf, hc, Option.getD_some]
      exact .inr ⟨by simp [errorOf, hrun, hindex], (exec_wrcfg_written hrun hc).trans (congrArg _ hsucceeded.symm)⟩

theorem exec_rdreg_eq (k : BitVec 8) (s : State) :
    (∃ e, errorOf (.rdreg k) s = some e ∧ exec (.rdreg k) s = .next (failed e s)) ∨
    (errorOf (.rdreg k) s = none ∧ exec (.rdreg k) s = .next (succeeded (.rdreg k) s)) := by
  cases hv : regRead s k with
  | none => exact .inl ⟨.index, if_neg ((regRead_eq_none_iff s k).1 hv), exec_rdreg_unmapped hv⟩
  | some v =>
    have hmapped : ¬regRead s k = none := by rw [hv]; nofun
    refine .inr ⟨if_pos (not_not.1 (mt (regRead_eq_none_iff s k).2 hmapped)), ?_⟩
    have hsucceeded : succeeded (.rdreg k) s = answered v s := by
      simp only [succeeded, resultOf, effectOf, hv, Option.getD_some]
    exact (exec_rdreg_mapped hv).trans (congrArg _ hsucceeded.symm)

theorem exec_start_eq (s : State) :
    (∃ e, errorOf .start s = some e ∧ exec .start s = .next (failed e s)) ∨
    (errorOf .start s = none ∧ exec .start s = .next (succeeded .start s)) := by
  cases hrun : s.run with
  | true => exact .inl ⟨.locked, by simp [errorOf, hrun], exec_start_run hrun⟩
  | false =>
    by_cases hbad : badConfig s.cfg = 0
    · exact .inr ⟨by simp [errorOf, hrun, hbad], exec_start_legal hrun hbad⟩
    · exact .inl ⟨.config, by simpa [errorOf, hrun] using hbad, exec_start_failed hrun hbad⟩

/-- Every command ends in the error of its first failed check, or in its effect with its result on the port. -/
theorem exec_eq (i : Instr) (s : State) :
    (∃ e, errorOf i s = some e ∧ exec i s = .next (failed e s)) ∨
    (errorOf i s = none ∧ exec i s = .next (succeeded i s)) := by
  cases i with
  | nop => exact .inr ⟨rfl, rfl⟩
  | sample x =>
    cases hrun : s.run with
    | true => exact .inr ⟨if_pos hrun, exec_sample_run hrun⟩
    | false => exact .inl ⟨.notRun, by simp [errorOf, hrun], exec_sample_config hrun⟩
  | regulate =>
    cases hrun : s.run with
    | true => exact .inr ⟨if_pos hrun, needRun_run hrun _ _⟩
    | false => exact .inl ⟨.notRun, by simp [errorOf, hrun], needRun_config hrun _⟩
  | settgt v => exact .inr ⟨rfl, rfl⟩
  | wrcfg k v => exact exec_wrcfg_eq k v s
  | rdreg k => exact exec_rdreg_eq k s
  | start => exact exec_start_eq s
  | rginit =>
    cases hrun : s.run with
    | true => exact .inr ⟨if_pos hrun, needRun_run hrun _ _⟩
    | false => exact .inl ⟨.notRun, by simp [errorOf, hrun], needRun_config hrun _⟩
  | reset => exact .inr ⟨rfl, rfl⟩

/-- What an answered command has done. -/
theorem exec_next {i : Instr} {s t : State} (ht : exec i s = .next t) :
    (∃ e, errorOf i s = some e ∧ t = failed e s) ∨ (errorOf i s = none ∧ t = succeeded i s) := by
  obtain ⟨e, he, h⟩ | ⟨he, h⟩ := exec_eq i s
  · exact .inl ⟨e, he, (Host.Outcome.next.inj (h.symm.trans ht)).symm⟩
  · exact .inr ⟨he, (Host.Outcome.next.inj (h.symm.trans ht)).symm⟩

/-! ### What an error and a success leave -/

@[simp] theorem failed_run (e : ErrCode) (s : State) : (failed e s).run = s.run := rfl

/-- No command but `RESET` writes `ERR` when it succeeds. -/
theorem effectOf_err {i : Instr} (s : State) (h : i ≠ .reset) : (effectOf i s).err = s.err := by
  cases i with
  | sample x => exact sampleState_err wave x s
  | reset => exact absurd rfl h
  | _ => rfl

/-- No command but `START` and `RESET` writes `RUN`. -/
theorem effectOf_run {i : Instr} (s : State) (hstart : i ≠ .start) (hreset : i ≠ .reset) : (effectOf i s).run = s.run := by
  cases i with
  | sample x => exact sampleState_run wave x s
  | start => exact absurd rfl hstart
  | reset => exact absurd rfl hreset
  | _ => rfl

/-- No command but `WRCFG` and `RESET` writes the configuration. -/
theorem effectOf_cfg {i : Instr} (s : State) (hwrcfg : ∀ k v, i ≠ .wrcfg k v) (hreset : i ≠ .reset) :
    (effectOf i s).cfg = s.cfg := by
  cases i with
  | sample x => exact sampleState_cfg wave x s
  | wrcfg k v => exact absurd rfl (hwrcfg k v)
  | reset => exact absurd rfl hreset
  | _ => rfl

/-! ### The causes of the errors -/

section
variable (i : Instr) (s : State)

theorem errorOf_eq_index_iff : errorOf i s = some .index ↔
    (∃ k v, i = .wrcfg k v ∧ s.run = false ∧ 0x18 < k.toNat) ∨
    (∃ k, i = .rdreg k ∧ ¬(k.toNat ≤ 0x18 ∨ k.toNat = 0x20 ∨ (0x40 ≤ k.toNat ∧ k.toNat ≤ 0x55))) := by
  cases hrun : s.run <;> cases i <;> simp [errorOf, hrun]

theorem errorOf_eq_locked_iff : errorOf i s = some .locked ↔ s.run = true ∧ (i = .start ∨ ∃ k v, i = .wrcfg k v) := by
  cases hrun : s.run <;> cases i <;> simp [errorOf, hrun]

theorem errorOf_eq_notRun_iff :
    errorOf i s = some .notRun ↔ s.run = false ∧ (i = .regulate ∨ i = .rginit ∨ ∃ x, i = .sample x) := by
  cases hrun : s.run <;> cases i <;> simp [errorOf, hrun]

theorem errorOf_eq_config_iff : errorOf i s = some .config ↔ s.run = false ∧ i = .start ∧ badConfig s.cfg ≠ 0 := by
  cases hrun : s.run <;> cases i <;> simp [errorOf, hrun]

theorem errorOf_ne_opcode : errorOf i s ≠ some .opcode := by
  cases hrun : s.run <;> cases i <;> simp [errorOf, hrun]

theorem errorOf_ne_field : errorOf i s ≠ some .field := by
  cases hrun : s.run <;> cases i <;> simp [errorOf, hrun]

end

/-! ### The code of a response -/

/-- The 4-bit code on the response port: that of the error, 0 for none (30 R58, 60 R237). -/
def rspCode (o : Option ErrCode) : BitVec 4 := o.elim 0 errCode

theorem errCode_injective : Function.Injective errCode := by
  intro e e'
  cases e <;> cases e' <;> decide

/-- The codes tell the errors apart, and 0 tells an error from success. -/
theorem rspCode_injective : Function.Injective rspCode := by
  rintro (_ | e) (_ | e') h
  · rfl
  · cases e' <;> exact absurd h (by decide)
  · cases e <;> exact absurd h (by decide)
  · exact congrArg some (errCode_injective h)

/-- The code a command answers is that of its error. -/
theorem exec_rsp_err {i : Instr} {s t : State} {r : Response} (ht : exec i s = .next t) (hr : t.rsp = some r) :
    r.err = rspCode (errorOf i s) := by
  obtain ⟨e, he, rfl⟩ | ⟨he, rfl⟩ := exec_next ht
  · cases hr; rw [he]; rfl
  · cases hr; rw [he]; rfl

/-! ### A presented word, and every step -/

/-- The checks of 30 R60 on a command word, all five in their order. -/
def wordError (w : Command) (s : State) : Option ErrCode :=
  match decode w with
  | .illegal .opcode => some .opcode
  | .illegal .field => some .field
  | .command i => errorOf i s

theorem wordError_encode (i : Instr) (s : State) : wordError (encode i) s = errorOf i s := by
  rw [wordError, decode_encode]

theorem step_command {s : State} {w : Command} {rest : List HostEvent} {i : Instr} (hhost : s.host = .command w :: rest)
    (hdecode : decode w = .command i) : step s = exec i { s with host := rest } := by
  simp [step, takeEvent_cons hhost, hdecode]

/-- A presented word ends in the error of its first failed check; else it is a command's word, and that command is run. -/
theorem step_word {s : State} {w : Command} {rest : List HostEvent} (hhost : s.host = .command w :: rest) :
    (∃ e, wordError w { s with host := rest } = some e ∧ step s = .next (failed e { s with host := rest })) ∨
    (∃ i, w = encode i ∧ errorOf i { s with host := rest } = none ∧ step s = .next (succeeded i { s with host := rest })) := by
  cases hdecode : decode w with
  | illegal e =>
    rw [step_illegal hhost hdecode]
    cases e with
    | opcode => exact .inl ⟨.opcode, by rw [wordError, hdecode], rejectWord_opcode _⟩
    | field => exact .inl ⟨.field, by rw [wordError, hdecode], rejectWord_field _⟩
  | command i =>
    obtain rfl := decode_eq_command_iff_eq_encode.1 hdecode
    rw [step_command hhost hdecode, wordError_encode]
    exact (exec_eq i _).imp_right fun h => ⟨i, rfl, h⟩

/-- What an answered step has done. -/
theorem step_next {s t : State} (ht : step s = .next t) :
    (s.host = [] ∧ t = idle s) ∨
    (∃ rest, s.host = .rst :: rest ∧ t = afterReset rest) ∨
    (∃ w rest e, s.host = .command w :: rest ∧ wordError w { s with host := rest } = some e ∧
      t = failed e { s with host := rest }) ∨
    (∃ i rest, s.host = .command (encode i) :: rest ∧ errorOf i { s with host := rest } = none ∧
      t = succeeded i { s with host := rest }) := by
  have answer {u : State} (h : step s = .next u) : t = u := Host.Outcome.next.inj (ht.symm.trans h)
  cases hhost : s.host with
  | nil => exact .inl ⟨rfl, answer (by simp [step, takeEvent_nil hhost])⟩
  | cons event rest =>
    cases event with
    | rst => exact .inr (.inl ⟨rest, rfl, answer (by simp [step, takeEvent_cons hhost]; rfl)⟩)
    | command w =>
      obtain ⟨e, he, h⟩ | ⟨i, rfl, he, h⟩ := step_word hhost
      · exact .inr (.inr (.inl ⟨w, rest, e, rfl, he, answer h⟩))
      · exact .inr (.inr (.inr ⟨i, rest, rfl, he, answer h⟩))

end Sys2Proof.Proofs
end

section
/-! SUPPORT. 20_memory.md, 60_exceptions.md and 30_encoding.md R60: which error a word ends in, what an error changes, what each
mode permits, and what changes the configuration. First the checks on the fields of a word; then the statements. -/

namespace Sys2Proof.Proofs

open Sys2Proof.Machine

/-! ### The fields of a command's word, as numbers -/

theorem packWord_numbers (op : BitVec 4) (k : BitVec 8) (d : Word) :
    (packWord op k d).toNat / 2 ^ 44 = op.toNat ∧ (packWord op k d).toNat / 2 ^ 40 % 16 = 0 ∧
    (packWord op k d).toNat / 2 ^ 32 % 256 = k.toNat ∧ (packWord op k d).toNat % 2 ^ 32 = d.toNat := by
  refine ⟨(opField_toNat _).symm.trans ?_, (rsvField_toNat _).symm.trans ?_, (idxField_toNat _).symm.trans ?_,
    (dataField_toNat _).symm.trans ?_⟩ <;> simp

/-- Check 1 fails on the reserved opcodes only. -/
theorem reserved_of_decode {w : Command} (h : decode w = .illegal .opcode) : 9 ≤ w.toNat / 2 ^ 44 := by
  have hop : (opField w).toNat = w.toNat / 2 ^ 44 := opField_toNat w
  rw [← hop]
  by_contra hlegal
  cases hi : instrOfOp (opField w) (idxField w) (dataField w) with
  | none => exact hlegal ((instrOfOp_eq_none_iff ..).1 hi)
  | some i =>
    simp only [decode, hi] at h
    split at h <;> cases h

/-- Check 2 fails on a legal opcode with a field that is not 0 and not used. -/
theorem fieldViolation_of_decode {w : Command} (h : decode w = .illegal .field) :
    w.toNat / 2 ^ 44 ≤ 8 ∧
    (w.toNat / 2 ^ 40 % 16 ≠ 0 ∨
      (w.toNat / 2 ^ 32 % 256 ≠ 0 ∧ w.toNat / 2 ^ 44 ≠ 4 ∧ w.toNat / 2 ^ 44 ≠ 5) ∨
      (w.toNat % 2 ^ 32 ≠ 0 ∧ w.toNat / 2 ^ 44 ≠ 1 ∧ w.toNat / 2 ^ 44 ≠ 3 ∧ w.toNat / 2 ^ 44 ≠ 4)) := by
  have hlegal : ¬9 ≤ (opField w).toNat := fun hop => by simp [decode_of_reserved hop] at h
  have hfield : fieldViolation w = true := by
    by_contra hclean
    obtain ⟨i, hi⟩ := Option.ne_none_iff_exists'.1 (mt (instrOfOp_eq_none_iff _ (idxField w) (dataField w)).1 hlegal)
    simp [decode, hi, hclean] at h
  refine ⟨by rw [opField_toNat] at hlegal; omega, ?_⟩
  rw [fieldViolation_iff, opUsesIdx_eq_false_iff, opUsesData_eq_false_iff] at hfield
  simpa [BitVec.toNat_eq, rsvField_toNat, idxField_toNat, dataField_toNat, opField_toNat] using hfield

/-- The order of the checks on the word's fields (30 R60, 60 R238), as a code. -/
def firstFailedCheck (op rsv idx data : Nat) (s : State) : BitVec 4 :=
  if op > 8 then 1
  else if rsv ≠ 0 ∨ (idx ≠ 0 ∧ op ≠ 4 ∧ op ≠ 5) ∨ (data ≠ 0 ∧ op ≠ 1 ∧ op ≠ 3 ∧ op ≠ 4) then 2
  else if (op = 1 ∨ op = 2 ∨ op = 7) ∧ s.run = false then 5
  else if (op = 4 ∨ op = 6) ∧ s.run = true then 4
  else if op = 4 ∧ idx > 0x18 then 3
  else if op = 5 ∧ ¬(idx ≤ 0x18 ∨ idx = 0x20 ∨ (0x40 ≤ idx ∧ idx ≤ 0x55)) then 3
  else if op = 6 ∧ badConfig s.cfg ≠ 0 then 6
  else 0

/-- The same, read off a word. -/
def firstFailedCheckOf (w : Command) (s : State) : BitVec 4 :=
  firstFailedCheck (w.toNat / 2 ^ 44) (w.toNat / 2 ^ 40 % 16) (w.toNat / 2 ^ 32 % 256) (w.toNat % 2 ^ 32) s

theorem firstFailedCheckOf_packWord (op : BitVec 4) (k : BitVec 8) (d : Word) (s : State) :
    firstFailedCheckOf (packWord op k d) s = firstFailedCheck op.toNat 0 k.toNat d.toNat s := by
  obtain ⟨hop, hrsv, hidx, hdata⟩ := packWord_numbers op k d
  rw [firstFailedCheckOf, hop, hrsv, hidx, hdata]

/-- On a command's own word the first two checks pass and the others are those of the command. -/
theorem rspCode_errorOf (i : Instr) (s : State) : rspCode (errorOf i s) = firstFailedCheckOf (encode i) s := by
  cases i with
  | wrcfg k v =>
    cases hrun : s.run <;> by_cases hk : 24 < k.toNat <;>
      simp [encode, firstFailedCheckOf_packWord, firstFailedCheck, errorOf, rspCode, errCode, hrun, hk]
  | rdreg k =>
    by_cases hk : k.toNat ≤ 24 ∨ k.toNat = 32 ∨ (64 ≤ k.toNat ∧ k.toNat ≤ 85) <;>
      simp [encode, firstFailedCheckOf_packWord, firstFailedCheck, errorOf, rspCode, errCode, hk]
  | start =>
    cases hrun : s.run <;> by_cases hbad : badConfig s.cfg = 0#32 <;>
      simp [encode, firstFailedCheckOf_packWord, firstFailedCheck, errorOf, rspCode, errCode, hrun, hbad]
  | _ =>
    cases hrun : s.run <;> simp [encode, firstFailedCheckOf_packWord, firstFailedCheck, errorOf, rspCode, errCode, hrun]

/-- The five checks of a word, in terms of its fields. -/
theorem rspCode_wordError (w : Command) (s : State) :
    rspCode (wordError w s) = firstFailedCheckOf w s := by
  cases hdecode : decode w with
  | illegal e =>
    cases e with
    | opcode =>
      have hop := reserved_of_decode hdecode
      rw [wordError, hdecode, firstFailedCheckOf, firstFailedCheck, if_pos (by omega)]
      rfl
    | field =>
      obtain ⟨hop, hfield⟩ := fieldViolation_of_decode hdecode
      rw [wordError, hdecode, firstFailedCheckOf, firstFailedCheck, if_neg (by omega), if_pos hfield]
      rfl
  | command i =>
    obtain rfl := decode_eq_command_iff_eq_encode.1 hdecode
    rw [wordError_encode, rspCode_errorOf]

/-- The response to a presented word carries the code of the first failed check. -/
theorem step_word_rsp {s : State} {w : Command} {rest : List HostEvent} (hhost : s.host = .command w :: rest) :
    ∃ t r, step s = .next t ∧ t.rsp = some r ∧ r.err = rspCode (wordError w { s with host := rest }) := by
  obtain ⟨e, he, hstep⟩ | ⟨i, rfl, he, hstep⟩ := step_word hhost
  · exact ⟨_, _, hstep, rfl, by rw [he]; rfl⟩
  · exact ⟨_, _, hstep, rfl, by rw [wordError_encode, he]; rfl⟩

/-! ### The statements: steps and words -/

/-- Settles O7: the word is taken off the list and decoded. -/
theorem stepRunsDecodedCommand : Obligations.StepRunsDecodedCommand := fun _ _ _ _ => step_command

/-- Settles O8: the two events that are no command. -/
theorem stepWaitsOrResets : Obligations.StepWaitsOrResets := by
  refine ⟨fun s hhost => ?_, fun s rest hhost => ?_⟩
  · rw [step, takeEvent_nil hhost]
    rfl
  · rw [step, takeEvent_cons hhost]
    rfl

/-- Settles O9: nothing presented and `rst` answer a state, and so do a command and a rejected word, by success or by error. -/
theorem everyStepAnswers : Obligations.EveryStepAnswers := by
  intro s
  obtain ⟨-, hs⟩ | ⟨rest, -, hs⟩ | ⟨w, rest, i, hhost, -, -⟩ | ⟨w, rest, e, hhost, -, -⟩ := step_cases s
  · exact ⟨_, hs⟩
  · exact ⟨_, hs⟩
  · obtain ⟨t, -, ht, -⟩ := step_word_rsp hhost
    exact ⟨t, ht⟩
  · obtain ⟨t, -, ht, -⟩ := step_word_rsp hhost
    exact ⟨t, ht⟩

/-- Settles O10: the code of a response is that of the word's error, which is the first failed check on its fields. -/
theorem firstFailedCheckDecides : Obligations.FirstFailedCheckDecides := by
  intro s w rest hhost
  obtain ⟨t, r, hstep, hrsp, herr⟩ := step_word_rsp hhost
  exact ⟨t, r, hstep, hrsp, herr.trans (rspCode_wordError w _)⟩

/-- Settles O11: an error response tells that the word failed a check; and only `RESET` and `rst` write `ERR` where it holds a
code. -/
theorem errorChangesOnlyErr : Obligations.ErrorChangesOnlyErr := by
  refine ⟨fun s t w rest r hhost ht hr herr => ?_, fun s t ht hsticky => ?_⟩
  · obtain ⟨e, -, hstep⟩ | ⟨i, -, -, hstep⟩ := step_word hhost <;> cases hstep.symm.trans ht <;> cases hr
    · refine ⟨rfl, fun hne => ?_, fun hsix => ?_⟩
      · exact if_neg fun he => hne (by rw [he]; rfl)
      · exact if_pos (errCode_injective hsix)
    · exact absurd rfl herr
  · obtain ⟨-, rfl⟩ | ⟨rest, hhost, rfl⟩ | ⟨w, rest, e, -, -, rfl⟩ | ⟨i, rest, hhost, -, rfl⟩ := step_next ht
    · exact .inl rfl
    · exact .inr ⟨rest, .inl hhost, rfl⟩
    · exact .inl (if_neg hsticky)
    · by_cases hi : i = .reset
      · subst hi
        exact .inr ⟨rest, .inr hhost, rfl⟩
      · exact .inl (effectOf_err _ hi)

/-! ### The statements: commands and modes -/

/-- Settles O12: the codes tell the errors apart, and each error has the cause that `errorOf` gives it. -/
theorem errorCodesNameTheirCause : Obligations.ErrorCodesNameTheirCause := by
  intro i s t r ht hr
  have hcode (o : Option ErrCode) : r.err = rspCode o ↔ errorOf i s = o := by
    rw [exec_rsp_err ht hr, rspCode_injective.eq_iff]
  refine ⟨?_, (hcode (some .index)).trans (errorOf_eq_index_iff i s), (hcode (some .locked)).trans (errorOf_eq_locked_iff i s),
    (hcode (some .notRun)).trans (errorOf_eq_notRun_iff i s), (hcode (some .config)).trans (errorOf_eq_config_iff i s)⟩
  rw [exec_rsp_err ht hr]
  cases he : errorOf i s with
  | none => exact .inl rfl
  | some e =>
    cases e with
    | opcode => exact absurd he (errorOf_ne_opcode i s)
    | field => exact absurd he (errorOf_ne_field i s)
    | index => exact .inr (.inl rfl)
    | locked => exact .inr (.inr (.inl rfl))
    | notRun => exact .inr (.inr (.inr (.inl rfl)))
    | config => exact .inr (.inr (.inr (.inr rfl)))

/-- A mode error is answered to a command of the other mode alone (60 R243). -/
theorem mode_of_rsp_err {i : Instr} {s t : State} {r : Response} (ht : exec i s = .next t) (hr : t.rsp = some r)
    (herr : r.err = 4 ∨ r.err = 5) :
    (s.run = true ∧ (i = .start ∨ ∃ k v, i = .wrcfg k v)) ∨
    (s.run = false ∧ (i = .regulate ∨ i = .rginit ∨ ∃ x, i = .sample x)) := by
  obtain ⟨-, -, hlocked, hnotRun, -⟩ := errorCodesNameTheirCause i s t r ht hr
  exact herr.imp hlocked.1 hnotRun.1

/-- Settles O13: the five refusals are the mode checks, and a mode error has no other cause. -/
theorem modesPermitTheirCommands : Obligations.ModesPermitTheirCommands := by
  refine ⟨fun s x hrun => exec_sample_config hrun, fun s hrun => needRun_config hrun _, fun s hrun => needRun_config hrun _,
    fun s k v hrun => exec_wrcfg_run hrun k v, fun s hrun => exec_start_run hrun, ?either, ?config, ?run⟩
  case either =>
    intro i s t r ht hr herr
    obtain ⟨-, rfl | ⟨k, v, rfl⟩⟩ | ⟨-, rfl | rfl | ⟨x, rfl⟩⟩ := mode_of_rsp_err ht hr herr <;> simp
  case config =>
    intro i s t r ht hr hrun hi
    rw [← not_or]
    intro herr
    obtain ⟨hrun', -⟩ | ⟨-, hi'⟩ := mode_of_rsp_err ht hr herr
    · simp [hrun] at hrun'
    · obtain rfl | ⟨k, v, rfl⟩ := hi <;> simp at hi'
  case run =>
    intro i s t r ht hr hrun hi
    rw [← not_or]
    intro herr
    obtain ⟨-, hi'⟩ | ⟨hrun', -⟩ := mode_of_rsp_err ht hr herr
    · obtain rfl | rfl | ⟨x, rfl⟩ := hi <;> simp at hi'
    · simp [hrun] at hrun'

/-- Settles O31: an error leaves the state machine alone; of the effects, `SAMPLE` counts and `RESET` clears. -/
theorem onlyExecutedSamplesCount : Obligations.OnlyExecutedSamplesCount := by
  intro i s t ht
  cases i with
  | sample x =>
    cases hrun : s.run with
    | true => rw [exec_sample_next hrun ht, respond_fsm, sampleState_tick]; rfl
    | false => rw [Host.Outcome.next.inj (ht.symm.trans (exec_sample_config hrun))]; rfl
  | reset => rw [succeed_next ht]; rfl
  | _ => rw [exec_keepsFsm s (by simp) (by simp) t ht]

theorem statusByte_loadReset (s : State) : statusByte (loadReset s) = 0 := by
  change statusByte State.reset = 0
  decide

/-- Settles O24: the reset state is loaded, and its status byte is 0. -/
theorem resetCommandLoadsResetState : Obligations.ResetCommandLoadsResetState := by
  refine ⟨by decide, fun s => ?_⟩
  rw [← statusByte_loadReset s]
  rfl

/-- Settles O26: the one register is written, in either mode. -/
theorem settgtWritesTarget : Obligations.SettgtWritesTarget := fun _ _ =>
  ⟨decode_packWord rfl (.inl rfl) (.inr rfl), rfl⟩

/-- Settles O15: in RUN mode `WRCFG` is refused, and the word of an effect that writes the configuration is `WRCFG`'s or
`RESET`'s. -/
theorem configurationIsFixedInRun : Obligations.ConfigurationIsFixedInRun := by
  intro s t ht
  obtain ⟨-, rfl⟩ | ⟨rest, hhost, rfl⟩ | ⟨w, rest, e, -, -, rfl⟩ | ⟨i, rest, hhost, he, rfl⟩ := step_next ht
  · exact ⟨fun _ _ => rfl, fun hcfg => absurd rfl hcfg⟩
  · exact ⟨fun _ hrun => (nomatch hrun), fun _ => ⟨0, rest, .inl hhost⟩⟩
  · exact ⟨fun _ _ => rfl, fun hcfg => absurd rfl hcfg⟩
  · cases i with
    | wrcfg k v =>
      refine ⟨fun hrun => ?_, fun _ => ⟨_, rest, .inr ⟨hhost, .inl (packWord_numbers 4#4 k v).1⟩⟩⟩
      simp [errorOf, hrun] at he
    | reset => exact ⟨fun _ hrun => (nomatch hrun), fun _ => ⟨_, rest, .inr ⟨hhost, .inr rfl⟩⟩⟩
    | _ =>
      exact ⟨fun _ _ => effectOf_cfg _ (by simp) (by simp), fun hne => absurd (effectOf_cfg _ (by simp) (by simp)) hne⟩

end Sys2Proof.Proofs
end

section
/-! SUPPORT. 40_arithmetic.md: the product (R84) and the one-pole step (R86), and the rounding of `q(r)` (30_encoding.md R64). First
the sign and the size of a scaled product; then the step without its saturations; then the nearest integer; then the statements. -/

namespace Sys2Proof.Proofs

open Sys2Proof.Machine

/-! ### Products -/

theorem mulq_comm (a b : Int) : mulq a b = mulq b a := by rw [mulq, Int.mul_comm, mulq]

theorem mulq_nonneg {a b : Int} (ha : 0 ≤ a) (hb : 0 ≤ b) : 0 ≤ mulq a b :=
  sat_nonneg (Int.ediv_nonneg (mul_nonneg ha hb) (by decide))

theorem addq_nonneg {a b : Int} (ha : 0 ≤ a) (hb : 0 ≤ b) : 0 ≤ addq a b := sat_nonneg (Int.add_nonneg ha hb)

/-- Saturation moves a value towards 0 or not at all. -/
theorem sat_between (v : Int) : min v 0 ≤ sat v ∧ sat v ≤ max v 0 := by
  rw [sat_eq_max_min, Config.qMin, Config.qMax]
  omega

/-- A factor in `0 .. ONE` scales a value towards 0, the floor included (40 R84). -/
theorem floor24_mul_between {a : Int} (ha0 : 0 ≤ a) (ha1 : a ≤ 16777216) (b : Int) :
    min b 0 ≤ floor24 (a * b) ∧ floor24 (a * b) ≤ max b 0 := by
  unfold floor24
  obtain hb | hb := le_total 0 b
  · have hlo : 0 ≤ a * b := mul_nonneg ha0 hb
    have hhi : a * b ≤ 16777216 * b := mul_le_mul_of_nonneg_right ha1 hb
    omega
  · have hlo : 16777216 * b ≤ a * b := mul_le_mul_of_nonpos_right ha1 hb
    have hhi : a * b ≤ 0 := mul_nonpos_of_nonneg_of_nonpos ha0 hb
    omega

/-- A value between 0 and a Q8.24 value is one itself. -/
theorem inQ_of_between {v b : Int} (hb : InQ b) (hlo : min b 0 ≤ v) (hhi : v ≤ max b 0) : InQ v :=
  ⟨(le_min hb.1 (by decide)).trans hlo, hhi.trans (max_le hb.2 (by decide))⟩

/-- So `mulq` with a coefficient does not saturate. -/
theorem mulq_of_coeff {a b : Int} (ha0 : 0 ≤ a) (ha1 : a ≤ 16777216) (hb : InQ b) : mulq a b = floor24 (a * b) := by
  obtain ⟨hlo, hhi⟩ := floor24_mul_between ha0 ha1 b
  exact sat_of_inQ (inQ_of_between hb hlo hhi)

/-! ### The one-pole step -/

section
variable {y x a : Int} (hy : InQ y) (hx : InQ x) (ha0 : 0 ≤ a) (ha1 : a ≤ 16777216)
include ha0 ha1

/-- What a step adds to its state lies between 0 and the whole distance. -/
theorem lp1_increment_between :
    min (x - y) 0 ≤ floor24 (a * subq x y) ∧ floor24 (a * subq x y) ≤ max (x - y) 0 := by
  obtain ⟨hdlo, hdhi⟩ : min (x - y) 0 ≤ subq x y ∧ subq x y ≤ max (x - y) 0 := sat_between (x - y)
  obtain ⟨hlo, hhi⟩ := floor24_mul_between ha0 ha1 (subq x y)
  exact ⟨(le_min hdlo (min_le_right _ _)).trans hlo, hhi.trans (max_le hdhi (le_max_right _ _))⟩

include hy hx

/-- So of the three saturations of a step only that of the difference can bite. -/
theorem lp1_eq_add : lp1 y x a = y + floor24 (a * subq x y) := by
  obtain ⟨hlo, hhi⟩ := lp1_increment_between (y := y) (x := x) ha0 ha1
  have hsum : InQ (y + floor24 (a * subq x y)) := by
    unfold InQ at *
    omega
  rw [lp1, mulq_of_coeff ha0 ha1 (subq_inQ x y), addq, sat_of_inQ hsum]

theorem lp1_between : min y x ≤ lp1 y x a ∧ lp1 y x a ≤ max y x := by
  have hincrement := lp1_increment_between (y := y) (x := x) ha0 ha1
  rw [lp1_eq_add hy hx ha0 ha1]
  omega

/-- An upward step of less than one unit before the floor stalls (40 R86). -/
theorem lp1_stalls (hup : y ≤ x) (hsmall : a * (x - y) < 16777216) : lp1 y x a = y := by
  obtain ⟨hdlo, hdhi⟩ : min (x - y) 0 ≤ subq x y ∧ subq x y ≤ max (x - y) 0 := sat_between (x - y)
  have hlo : 0 ≤ a * subq x y := mul_nonneg ha0 (by omega)
  have hhi : a * subq x y ≤ a * (x - y) := mul_le_mul_of_nonneg_left (by omega) ha0
  have hzero : floor24 (a * subq x y) = 0 := Int.ediv_eq_zero_of_lt hlo (hhi.trans_lt hsmall)
  rw [lp1_eq_add hy hx ha0 ha1, hzero, Int.add_zero]

/-- The floor of a negative product is at most -1, so a downward step does not stall. -/
theorem lp1_falls (hdown : x < y) (ha : 0 < a) : lp1 y x a < y := by
  have hdiff : subq x y < 0 := by
    unfold subq sat Config.qMin Config.qMax
    split
    · omega
    · split <;> omega
  have hneg : floor24 (a * subq x y) < 0 := Int.ediv_lt_of_lt_mul (by decide) (by simpa using mul_neg_of_pos_of_neg ha hdiff)
  rw [lp1_eq_add hy hx ha0 ha1]
  omega

end

/-! ### The nearest integer -/

/-- Half a unit added before the floor: the magnitude of `q(± num / den)` (30 R64). -/
def roundedMagnitude (num den : Nat) : Nat := (2 * 16777216 * num + den) / (2 * den)

/-- The rounded magnitude is the floor of the exact one and a half. -/
theorem roundedMagnitude_bounds (num : Nat) {den : Nat} (hden : 0 < den) :
    (roundedMagnitude num den : ℚ) ≤ (num : ℚ) / den * 16777216 + 1 / 2 ∧
    (num : ℚ) / den * 16777216 + 1 / 2 < roundedMagnitude num den + 1 := by
  have hfloor : ⌊((2 * 16777216 * num + den : Nat) : ℚ) / ((2 * den : Nat) : ℚ)⌋₊ = roundedMagnitude num den :=
    Nat.floor_div_eq_div ..
  have hexact : ((2 * 16777216 * num + den : Nat) : ℚ) / ((2 * den : Nat) : ℚ) = (num : ℚ) / den * 16777216 + 1 / 2 := by
    have : (den : ℚ) ≠ 0 := by exact_mod_cast hden.ne'
    push_cast
    field_simp
    ring
  rw [← hexact, ← hfloor]
  exact ⟨Nat.floor_le (by positivity), Nat.lt_floor_add_one _⟩

/-- It is the nearest integer to the exact magnitude, and the greater one on a tie. -/
theorem roundedMagnitude_nearest (num : Nat) {den : Nat} (hden : 0 < den) :
    |(num : ℚ) / den * 16777216 - roundedMagnitude num den| ≤ 1 / 2 ∧
    (|(num : ℚ) / den * 16777216 - roundedMagnitude num den| = 1 / 2 →
      (num : ℚ) / den * 16777216 < roundedMagnitude num den) := by
  obtain ⟨hlo, hhi⟩ := roundedMagnitude_bounds num hden
  refine ⟨abs_le.2 ⟨by linarith, by linarith⟩, fun htie => ?_⟩
  obtain h | h := eq_or_eq_neg_of_abs_eq htie <;> linarith

/-! ### The statements -/

/-- Settles O53: the division is the rational floor; a factor in `0 .. ONE` scales towards 0, and `ONE` and 0 are its ends. -/
theorem mulqIsTheFlooredProduct : Obligations.MulqIsTheFlooredProduct := by
  refine ⟨fun a b => ?_, fun b hmin hmax => ⟨?_, ?_⟩, mulq_comm, by decide, by decide, by decide, fun a b ha0 ha1 hmin hmax => ?_⟩
  · have hfloor : ⌊((a * b : Int) : ℚ) / ((16777216 : Int) : ℚ)⌋ = a * b / 16777216 :=
      floor_intCast_div_of_pos (a * b) (by decide)
    calc mulq a b = sat (a * b / 16777216) := rfl
      _ = sat ⌊((a * b : Int) : ℚ) / 16777216⌋ := by rw [← hfloor]; norm_cast
  · rw [mulq_of_coeff (by decide) le_rfl ⟨hmin, hmax⟩]
    exact Int.mul_ediv_cancel_left b (by decide)
  · rw [mulq_comm, mulq_zero]
  · rw [mulq_of_coeff ha0 ha1 ⟨hmin, hmax⟩]
    exact floor24_mul_between ha0 ha1 b

/-- Settles O55: a step adds the floored fraction of the saturated difference. -/
theorem onePoleStaysBetween : Obligations.OnePoleStaysBetween := by
  intro y x a hymin hymax hxmin hxmax ha0 ha1
  have hy : InQ y := ⟨hymin, hymax⟩
  have hx : InQ x := ⟨hxmin, hxmax⟩
  refine ⟨lp1_between hy hx ha0 ha1, ?_, fun hdmin hdmax => ?_, lp1_stalls hy hx ha0 ha1, lp1_falls hy hx ha0 ha1⟩
  · rw [lp1_eq_add hy hx le_rfl (by decide), Int.zero_mul]
    exact Int.add_zero y
  · have hdiff : subq x y = x - y := sat_of_inQ ⟨hdmin, hdmax⟩
    have hwhole : floor24 (16777216 * (x - y)) = x - y := Int.mul_ediv_cancel_left _ (by decide)
    rw [lp1_eq_add hy hx (by decide) le_rfl, hdiff, hwhole]
    omega

/-- Settles O57: `qWord` puts the sign on the rounded magnitude, which is nearest and away from 0 on a tie. -/
theorem qWordRoundsToNearest : Obligations.QWordRoundsToNearest := by
  intro neg num den hden r
  obtain ⟨hnear, htie⟩ := roundedMagnitude_nearest num hden
  have hexact : 0 ≤ (num : ℚ) / den * 16777216 := by positivity
  cases neg with
  | false =>
    have hr : r = (num : ℚ) / den * 16777216 := by simp [r]
    refine ⟨(roundedMagnitude num den : Int), ?_, ?_, rfl⟩ <;> rw [hr] <;> push_cast
    · exact hnear
    · rwa [abs_of_nonneg hexact, Nat.abs_cast]
  | true =>
    have hr : r = -((num : ℚ) / den * 16777216) := by simp [r]
    have hdist : |r - ((-(roundedMagnitude num den : Int) : Int) : ℚ)| =
        |(num : ℚ) / den * 16777216 - roundedMagnitude num den| := by
      rw [hr, ← abs_neg]
      push_cast
      ring_nf
    refine ⟨-(roundedMagnitude num den : Int), hdist ▸ hnear, ?_, rfl⟩
    rw [hdist, hr, abs_neg, abs_of_nonneg hexact]
    push_cast
    rwa [abs_neg, Nat.abs_cast]

end Sys2Proof.Proofs
end

section
/-! SUPPORT. The configuration table of 10_state.md (R21) against the checks of `START` (47_host_commands.md R226), the two mode
transitions (60_exceptions.md R244), and the register map (10_state.md R22). -/

namespace Sys2Proof.Proofs

open Sys2Proof.Machine

/-! ### No failed check -/

/-- The bitmap is 0 when no check of the list fails. -/
theorem badConfig_eq_zero_iff (c : ConfigRegs) : badConfig c = 0 ↔ ∀ b ∈ failedChecks c, b = false := by
  refine ⟨fun h b hb => ?_, fun h => BitVec.eq_of_getLsbD_eq fun k _ => ?_⟩
  · obtain ⟨k, hk⟩ := List.mem_iff_getElem?.1 hb
    have hbit := badConfig_getLsbD c k
    rw [h, hk] at hbit
    simpa using hbit.symm
  · rw [badConfig_getLsbD]
    cases hk : (failedChecks c)[k]? with
    | none => simp
    | some b => simp [h b (List.mem_of_getElem? hk)]

theorem badCoeff_eq_false_iff (w : Word) : badCoeff w = false ↔ LegalCoeff w := by
  rw [← Bool.not_eq_true, badCoeff_iff, not_or, not_lt, not_lt, LegalCoeff]

theorem anyBadCoeff_eq_false_iff (c : ConfigRegs) : anyBadCoeff c = false ↔
    LegalCoeff c.dcA ∧ LegalCoeff c.lpALo ∧ LegalCoeff c.lpAHi ∧ LegalCoeff c.envAtt ∧ LegalCoeff c.envRel ∧
      LegalCoeff c.trigDecay ∧ LegalCoeff c.trigSens ∧ LegalCoeff c.perA := by
  simp [anyBadCoeff, badCoeff_eq_false_iff, and_assoc]

/-- The mask of the reserved bits of `CFG_PLL_SHIFTS` takes in bits 7:5 and 31:13 (10 R21). -/
theorem and_reservedShiftBits_eq_zero_iff (w : Word) :
    w &&& 0xFFFFE0E0#32 = 0 ↔ w.extractLsb' 5 3 = 0 ∧ w.extractLsb' 13 19 = 0 := by
  refine ⟨fun h => ?_, fun ⟨hlow, hhigh⟩ => BitVec.eq_of_getLsbD_eq fun j hj => ?_⟩
  · have field {start len : Nat} (hmask : (0xFFFFE0E0#32).extractLsb' start len = BitVec.allOnes len) :
        w.extractLsb' start len = 0 := by
      have hfield := congrArg (BitVec.extractLsb' start len) h
      rw [BitVec.extractLsb'_and, hmask, BitVec.and_allOnes] at hfield
      rw [hfield]
      simp
    exact ⟨field (by decide), field (by decide)⟩
  · have hplaces : ∀ j < 32, (0xFFFFE0E0#32).getLsbD j = true → (5 ≤ j ∧ j < 8) ∨ (13 ≤ j ∧ j < 32) := by decide
    have bit {start len : Nat} (hfield : w.extractLsb' start len = 0) (hlo : start ≤ j) (hhi : j < start + len) :
        w.getLsbD j = false := by
      have hbit := congrArg (BitVec.getLsbD · (j - start)) hfield
      simpa [show j - start < len by omega, show start + (j - start) = j by omega] using hbit
    rw [BitVec.getLsbD_and]
    cases hmask : (0xFFFFE0E0#32).getLsbD j with
    | false => simp
    | true =>
      obtain ⟨hlo, hhi⟩ | ⟨hlo, hhi⟩ := hplaces j hj hmask
      · simp [bit hlow hlo hhi]
      · simp [bit hhigh hlo hhi]

/-- The two fields of check 8. -/
theorem shiftFields_eq_false_iff (w : Word) :
    (w.extractLsb' 5 3 != 0) = false ∧ (w.extractLsb' 13 19 != 0) = false ↔ w &&& 0xFFFFE0E0#32 = 0 := by
  rw [and_reservedShiftBits_eq_zero_iff, bne_eq_false_iff_eq, bne_eq_false_iff_eq]

/-- The high bits of check 2. -/
theorem modeField_eq_false_iff (w : Word) : (w.extractLsb' 1 31 != 0) = false ↔ w.toNat < 2 := by
  have h : (w.extractLsb' 1 31 != 0#31) = true ↔ w.toNat / 2 ^ 1 ≠ 0 := extractLsb'_top_bne_zero_iff w rfl
  rw [← Bool.not_eq_true, show (0 : BitVec 31) = 0#31 from rfl, h]
  omega

/-! ### The packed registers of the map -/

theorem trgBits_toNat (t : TriggerState) : (trgBits t).toNat = t.cmpp.toNat + 2 * t.cmpn.toNat + 4 * t.trig.toNat := by
  unfold trgBits
  rw [BitVec.toNat_setWidth_of_le (by decide)]
  simp only [toNat_append_eq_add, BitVec.toNat_ofBool]
  omega

theorem pllBits_toNat (p : PllState) : (pllBits p).toNat =
    p.ffSig.toNat + 2 * p.ffRef.toNat + 4 * p.prevSig.toNat + 8 * p.prevRef.toNat + 16 * p.prevErr.toNat := by
  unfold pllBits
  rw [BitVec.toNat_setWidth_of_le (by decide)]
  simp only [toNat_append_eq_add, BitVec.toNat_ofBool]
  omega

/-- A configuration index is read from the configuration. -/
theorem regRead_of_le {s : State} {k : BitVec 8} (hk : k.toNat ≤ 0x18) : regRead s k = cfgRead s.cfg k := by
  obtain ⟨v, hv⟩ := Option.ne_none_iff_exists'.1 (mt (cfgRead_eq_none_iff s.cfg k).1 (not_lt.2 hk))
  rw [regRead, hv]

/-! ### The statements -/

/-- Settles O22: check by check, each is the legal range of its register or registers. -/
theorem noFailedCheckMeansLegal : Obligations.NoFailedCheckMeansLegal := by
  intro c
  rw [badConfig_eq_zero_iff]
  simp only [failedChecks, List.forall_mem_cons, List.not_mem_nil, false_imp_iff, implies_true, and_true,
    anyBadCoeff_eq_false_iff, modeField_eq_false_iff, beq_eq_false_iff_ne,
    Bool.or_eq_false_iff, Bool.not_eq_false', Bool.and_eq_true, decide_eq_true_eq, decide_eq_false_iff_not, not_lt, not_le]
  have hpos (w : Word) : w ≠ 0 ↔ 1 ≤ w.toNat := by
    rw [Nat.one_le_iff_ne_zero, ne_eq, ne_eq, BitVec.toNat_eq]; rfl
  constructor
  · rintro ⟨hsps, hlatency, hmode, ⟨hdcA, hlpALo, hlpAHi, henvAtt, henvRel, htrigDecay, htrigSens, hperA⟩, horder,
      ⟨hgateLo, hgateOrder⟩, hagcGmax, htrigHyst, hshifts, ⟨hn0, hn⟩, hsync, ⟨⟨hdt, hrate0⟩, hrate⟩, hmaxGain⟩
    exact ⟨hsps, hlatency, hmode, hdcA, hlpALo, hlpAHi, horder, henvAtt, henvRel, hgateLo, hgateOrder, hagcGmax, htrigDecay,
      htrigSens, htrigHyst, (shiftFields_eq_false_iff _).1 hshifts, hperA, ⟨(hpos _).1 hn0, hn⟩, hsync, hdt,
      ⟨(hpos _).1 hrate0, hrate⟩, hmaxGain⟩
  · intro h
    exact ⟨h.sps, h.latency, h.mode, ⟨h.dcA, h.lpALo, h.lpAHi, h.envAtt, h.envRel, h.trigDecay, h.trigSens, h.perA⟩,
      h.lpOrder, ⟨h.gateLo, h.gateOrder⟩, h.agcGmax, h.trigHyst, (shiftFields_eq_false_iff _).2 h.pllShifts,
      ⟨(hpos _).2 h.outlierN.1, h.outlierN.2⟩, h.syncShift, ⟨⟨h.pidDt, (hpos _).2 h.pidRate.1⟩, h.pidRate.2⟩, h.maxGain⟩

/-- A `START` that no check refuses finds CONFIG mode and a legal configuration. -/
theorem legalConfig_of_start {s : State} (h : errorOf .start s = none) : s.run = false ∧ LegalConfig s.cfg := by
  have hmode : ¬(s.run = true ∧ _) := mt (errorOf_eq_locked_iff .start s).2 (by simp [h])
  have hchecks : ¬(s.run = false ∧ _) := mt (errorOf_eq_config_iff .start s).2 (by simp [h])
  have hrun : s.run = false := by simpa using hmode
  exact ⟨hrun, (noFailedCheckMeansLegal s.cfg).1 (by simpa [hrun] using hchecks)⟩

/-- Settles O14: of the steps, those that write `RUN` are `START`, the `RESET` word and `rst`. -/
theorem onlyStartAndResetChangeMode : Obligations.OnlyStartAndResetChangeMode := by
  intro s t ht
  have same {u : State} {P Q : Prop} (hu : u.run = s.run) :
      (s.run = false → u.run = true → P) ∧ (s.run = true → u.run = false → Q) := by
    cases hrun : s.run <;> simp [hu, hrun]
  obtain ⟨-, rfl⟩ | ⟨rest, hhost, rfl⟩ | ⟨w, rest, e, -, -, rfl⟩ | ⟨i, rest, hhost, he, rfl⟩ := step_next ht
  · exact same (idle_run s)
  · exact ⟨fun _ h => (nomatch h), fun _ _ => ⟨rest, .inl hhost, rfl⟩⟩
  · exact same (failed_run e { s with host := rest })
  · cases i with
    | start => exact ⟨fun _ _ => ⟨rest, hhost, (legalConfig_of_start he).2, rfl⟩, fun _ h => (nomatch h)⟩
    | reset => exact ⟨fun _ h => (nomatch h), fun _ _ => ⟨rest, .inr hhost, rfl⟩⟩
    | _ => exact same (effectOf_run _ (by simp) (by simp))

/-- Settles O19: the map gives each index its register by its own row; the packed registers are sums of their bits. -/
theorem registerMapIsTheTable : Obligations.RegisterMapIsTheTable := by
  intro s
  have htrg : (regRead s 0x4A).map BitVec.toNat = some (trgBits s.trg).toNat := rfl
  have hpll : (regRead s 0x4B).map BitVec.toNat = some (pllBits s.pll).toNat := rfl
  have hstatus : (regRead s 0x40).map BitVec.toNat = some (statusWord s).toNat := rfl
  have herr : (regRead s 0x41).map BitVec.toNat = some (s.err.setWidth 32).toNat := rfl
  have hcnt : (regRead s 0x50).map BitVec.toNat = some (s.fsm.outlCnt.setWidth 32).toNat := rfl
  rw [trgBits_toNat] at htrg
  rw [pllBits_toNat] at hpll
  rw [statusWord_toNat] at hstatus
  rw [BitVec.toNat_setWidth_of_le (by decide)] at herr hcnt
  exact ⟨fun k hk => regRead_of_le hk, rfl, rfl, rfl, rfl, rfl, rfl, rfl, rfl, rfl, rfl, rfl, rfl, rfl, rfl, rfl, rfl, rfl, rfl,
    rfl, rfl, rfl, rfl, rfl, rfl, rfl, rfl, hstatus, herr, rfl, rfl, rfl, rfl, rfl, rfl, rfl, rfl, htrg, hpll, rfl, rfl, rfl,
    rfl, hcnt, rfl, rfl, rfl, rfl, rfl⟩

/-- Settles O51: the waveform is 0 or clamped; the triangle's ramp is a 24-bit field. -/
theorem waveformsKeepTheirBounds : Obligations.WaveformsKeepTheirBounds := by
  refine ⟨⟨if_pos rfl, fun p => ?_⟩, by decide, fun p => ?_⟩
  · unfold wave
    split
    · decide
    · exact clamp_bounds (by decide)
  · have hramp : (p.extractLsb' 6 24).toNat < 16777216 := BitVec.isLt _
    unfold waveTri Config.one
    dsimp only
    split <;> omega

end Sys2Proof.Proofs
end

section
/-! SUPPORT. 42_agc_gate.md R123, R124, 43_cycle_trigger.md R143 and 46_level_regulator.md R211: the inferences about the envelope,
the front end and the gain. -/

namespace Sys2Proof.Proofs

open Sys2Proof.Machine

/-! ### The envelope -/

/-- The follower moves between its state and a magnitude, so it stays not negative (42 R124). -/
theorem envFollow_nonneg {c : ConfigRegs} (hc : LegalConfig c) {env : Int} (hq : InQ env) (henv : 0 ≤ env) (lp : Int) :
    0 ≤ envFollow c env lp := by
  have hm : 0 ≤ absq lp := by
    rw [absq_eq_sat_abs]
    exact sat_nonneg (abs_nonneg lp)
  have step {w : Word} (hw : LegalCoeff w) : 0 ≤ lp1 env (absq lp) (s32 w) :=
    (le_min henv hm).trans (lp1_between hq (absq_inQ lp) hw.1 hw.2).1
  rw [envFollow_eq_ite]
  split
  · exact step hc.envAtt
  · exact step hc.envRel

/-- With the thresholds in order, an open gate has an envelope of at least `GATE_LO`. -/
theorem gateLo_le_of_open {c : ConfigRegs} (horder : s32 c.gateLo ≤ s32 c.gateHi) {env : Int} {gate : Bool}
    (hopen : gateNext c env gate = true) : s32 c.gateLo ≤ env := by
  by_contra hlow
  rw [gateNext_of_lt (not_le.1 hlow) horder] at hopen
  cases hopen

theorem agcStep_env_nonneg {c : ConfigRegs} (hc : LegalConfig c) {a : AgcState} (henv : 0 ≤ s32 a.env) (x : Int) :
    0 ≤ s32 (agcStep c a x).1.env := by
  rw [s32_agcStep_env]
  exact envFollow_nonneg hc (s32_inQ _) henv _

theorem agcStep_env_of_open {c : ConfigRegs} (hc : LegalConfig c) {a : AgcState} {x : Int}
    (hopen : (agcStep c a x).1.gate = true) : s32 c.gateLo ≤ s32 (agcStep c a x).1.env :=
  gateLo_le_of_open hc.gateOrder ((agcStep_gate c a x).symm.trans hopen)

/-! ### The gain -/

section
variable {c : ConfigRegs} {r : LevelState} {e : Int}

/-- Without a derivative gain there is no derivative term. -/
theorem derivTerm_of_zero (hkd : c.pidKd = 0) (perr : Int) : derivTerm c e perr = 0 := by
  have hzero : s32 c.pidKd = 0 := by rw [hkd]; decide
  rw [derivTerm, hzero, mulq_comm, mulq_zero, Int.zero_mul]
  rfl

theorem integNext_nonneg (hdt : 0 ≤ s32 c.pidDt) (he : 0 ≤ e) {integ : Int} (hi : 0 ≤ integ) : 0 ≤ integNext c integ e :=
  addq_nonneg hi (mulq_nonneg he hdt)

/-- A proportional-integral adjustment of a level below the target is not negative (46 R211). -/
theorem gainAdjust_nonneg (hkp : 0 ≤ s32 c.pidKp) (hki : 0 ≤ s32 c.pidKi) (hkd : c.pidKd = 0) (hdt : 0 ≤ s32 c.pidDt)
    (he : 0 ≤ e) (hi : 0 ≤ s32 r.integ) : 0 ≤ gainAdjust c r e := by
  have hprop : 0 ≤ propTerm c e := mulq_nonneg hkp he
  have hinteg : 0 ≤ integTerm c (integNext c (s32 r.integ) e) := mulq_nonneg hki (integNext_nonneg hdt he hi)
  rw [gainAdjust, derivTerm_of_zero hkd]
  exact addq_nonneg (addq_nonneg hprop hinteg) le_rfl

end

/-- `REG_INT` keeps the updated integrator as it is (46 R204). -/
theorem s32_levelStep_integ (c : ConfigRegs) (r : LevelState) (e : Int) :
    s32 (levelStep c r e).integ = integNext c (s32 r.integ) e := s32_u32 (addq_inQ ..)

/-! ### The statements -/

/-- Settles O41: the follower's two ends are not negative, and an open gate is not below its threshold. -/
theorem envelopeStaysNonnegative : Obligations.EnvelopeStaysNonnegative := fun c _ x hc henv =>
  ⟨agcStep_env_nonneg hc henv x, fun hopen =>
    have hlo : s32 c.gateLo ≤ _ := agcStep_env_of_open hc hopen
    ⟨hlo, hc.gateLo.trans hlo⟩⟩

/-- Settles O43: the registers a `SAMPLE` leaves in the front end are written by the two unit steps alone. -/
theorem frontEndIgnoresTheRest : Obligations.FrontEndIgnoresTheRest := by
  intro x s₁ s₂ t₁ t₂ hrun₁ hrun₂ hcfg hagc ht₁ ht₂
  have hagc' : t₁.agc = t₂.agc := by rw [exec_sample_agc hrun₁ ht₁, exec_sample_agc hrun₂ ht₂, hcfg, hagc]
  refine ⟨hagc', fun htrg => ?_⟩
  rw [exec_sample_trg hrun₁ ht₁, exec_sample_trg hrun₂ ht₂, hcfg, hagc, htrg, hagc']

/-- Settles O29: the error is not negative, so neither is any term of the adjustment, and the clamp keeps what the gain has. -/
theorem gainNeverFallsBelowTarget : Obligations.GainNeverFallsBelowTarget := by
  intro s t hrun hkp hki hkd hdt hbelow hi hgain0 hgain1 ht
  have he : 0 ≤ levelError s := sat_nonneg (Int.sub_nonneg.2 hbelow)
  have hadj : 0 ≤ gainAdjust s.cfg s.reg (levelError s) := gainAdjust_nonneg hkp hki hkd hdt he hi
  have hreg : t.reg = levelStep s.cfg s.reg (levelError s) := by
    rw [exec_regulate, needRun_true hrun] at ht
    rw [succeed_next ht, respond_reg]
  rw [hreg, s32_levelStep_gain (hgain0.trans hgain1), s32_levelStep_integ, clamp]
  exact ⟨by omega, by omega, integNext_nonneg hdt he hi⟩

end Sys2Proof.Proofs
end

section
/-! SUPPORT. 45_sustain_fsm.md: one reading (R171 to R176). First the reading, then the three ways the estimate goes and the outlier
accumulator, then what is sound before a reading and after it; then the statement. -/

namespace Sys2Proof.Proofs

open Sys2Proof.Machine

/-! ### The reading and the frequency -/

/-- A positive interval reads as at least one sample, and every reading fits UQ16.16 (45 R171). -/
theorem reading_bounds {raw : Nat} (hraw : 0 < raw) : 65536 ≤ reading raw ∧ reading raw < 4294967296 := by
  unfold reading Config.periodRawMax
  omega

theorem inBand_iff (est m : Nat) : inBand est m = true ↔ bandLo est ≤ m ∧ m ≤ bandHi est := by
  rw [inBand, Bool.and_eq_true, decide_eq_true_iff, decide_eq_true_iff]

/-- The frequency of an estimate, clamped into its register (45 R176). -/
theorem freqOfPeriod_freq_toNat (f : FsmState) (o : OscState) :
    (freqOfPeriod f o).freq.toNat = min (281474976710656 / f.periodEst.toNat) 2147483648 := by
  have hfreq : ((freqOfPeriod f o).freq.toNat : Int) = clamp ((281474976710656 / f.periodEst.toNat : Nat) : Int) 0 Config.freqMax :=
    oscSetFreq_freq_toNat _ o
  rw [clamp, Config.freqMax] at hfreq
  generalize 281474976710656 / f.periodEst.toNat = quotient at hfreq ⊢
  omega

/-! ### Where the estimate goes -/

/-- The outlier accumulator after a reading out of the band (45 R175). -/
def accumulated (f : FsmState) (m : Nat) : Nat := if f.outlCnt = 0 then m else (f.outlAcc.toNat + m) / 2

section
variable (c : ConfigRegs) {f : FsmState} {m : Nat}

theorem updatePeriod_of_unmeasured (hest : f.periodEst = 0) : updatePeriod c m f = seedPeriod m f := if_pos hest

theorem updatePeriod_of_inside (hest : f.periodEst ≠ 0) (hin : inBand f.periodEst.toNat m = true) :
    updatePeriod c m f = smoothPeriod c m f := by rw [updatePeriod, if_neg hest, if_pos hin]

theorem updatePeriod_of_outside (hest : f.periodEst ≠ 0) (hout : ¬inBand f.periodEst.toNat m = true) :
    updatePeriod c m f = outlierPeriod c m f := by rw [updatePeriod, if_neg hest, if_neg hout]

theorem outlierPeriod_of_full (hfull : c.outlierN.toNat ≤ f.outlCnt.toNat + 1) :
    outlierPeriod c m f = { f with periodEst := BitVec.ofNat 32 (accumulated f m), outlCnt := 0, outlAcc := 0 } := if_pos hfull

theorem outlierPeriod_of_room (hroom : f.outlCnt.toNat + 1 < c.outlierN.toNat) :
    outlierPeriod c m f =
      { f with outlAcc := BitVec.ofNat 32 (accumulated f m), outlCnt := BitVec.ofNat 8 (f.outlCnt.toNat + 1) } :=
  if_neg (not_le.2 hroom)

end

/-- Smoothing with a coefficient in `0 .. ONE` stays between the estimate and the reading, so the register keeps it (45 R174). -/
theorem smoothPeriod_periodEst {c : ConfigRegs} (hper : LegalCoeff c.perA) {m : Nat} (hm : m < 4294967296) (f : FsmState) :
    ((smoothPeriod c m f).periodEst.toNat : Int) =
      (f.periodEst.toNat : Int) + s32 c.perA * ((m : Int) - f.periodEst.toNat) / 16777216 ∧
    min f.periodEst.toNat m ≤ (smoothPeriod c m f).periodEst.toNat ∧
    (smoothPeriod c m f).periodEst.toNat ≤ max f.periodEst.toNat m := by
  have hest := f.periodEst.isLt
  obtain ⟨hlo, hhi⟩ := floor24_mul_between hper.1 hper.2 ((m : Int) - f.periodEst.toNat)
  have hkept : ((smoothPeriod c m f).periodEst.toNat : Int) =
      (f.periodEst.toNat : Int) + floor24 (s32 c.perA * ((m : Int) - f.periodEst.toNat)) :=
    u32_toNat_of_lt (by omega) (by omega)
  exact ⟨hkept, by omega, by omega⟩

/-! ### What is sound before and after a reading -/

/-- The direct-timing side of the invariant: an estimate is at least one sample, the outlier count is below its limit, and an
accumulator in use holds readings (10 R28, 45 R175). -/
structure TimingSound (c : ConfigRegs) (f : FsmState) : Prop where
  period : f.periodEst = 0 ∨ 65536 ≤ f.periodEst.toNat
  count : f.outlCnt.toNat < c.outlierN.toNat
  accumulator : f.outlCnt ≠ 0 → 65536 ≤ f.outlAcc.toNat

section
variable {c : ConfigRegs} {f : FsmState} {m : Nat} (hf : TimingSound c f) (hmlo : 65536 ≤ m) (hmhi : m < 4294967296)
include hf hmlo hmhi

/-- An accumulator is a reading or the mean of two values that are each at least one sample and fit a register. -/
theorem accumulated_bounds : 65536 ≤ accumulated f m ∧ accumulated f m < 4294967296 := by
  unfold accumulated
  split
  next => exact ⟨hmlo, hmhi⟩
  next hcnt =>
    have hacc := hf.accumulator hcnt
    have hlt := f.outlAcc.isLt
    omega

theorem toNat_ofNat_accumulated : (BitVec.ofNat 32 (accumulated f m)).toNat = accumulated f m := by
  rw [BitVec.toNat_ofNat]
  exact Nat.mod_eq_of_lt (accumulated_bounds hf hmlo hmhi).2

omit hmlo hmhi in
/-- An estimate with a fresh accumulator is sound if it is at least one sample. -/
theorem timingSound_of_fresh {f' : FsmState} (hest : 65536 ≤ f'.periodEst.toNat) (hcnt : f'.outlCnt = 0) : TimingSound c f' where
  period := .inr hest
  count := by
    have hcount := hf.count
    rw [hcnt, BitVec.ofNat_eq_ofNat, BitVec.toNat_zero]
    omega
  accumulator := fun hne => absurd hcnt hne

/-- A count below an 8-bit limit fits its register. -/
theorem timingSound_of_room (hn : c.outlierN.toNat ≤ 255)
    (hroom : f.outlCnt.toNat + 1 < c.outlierN.toNat) : TimingSound c (outlierPeriod c m f) := by
  rw [outlierPeriod_of_room c hroom]
  exact {
    period := hf.period
    count := by rw [BitVec.toNat_ofNat]; omega
    accumulator := fun _ => by
      rw [toNat_ofNat_accumulated hf hmlo hmhi]
      exact (accumulated_bounds hf hmlo hmhi).1 }

/-- After a reading there is an estimate, and what was sound is sound (45 R191). -/
theorem updatePeriod_sound (hper : LegalCoeff c.perA) (hn : c.outlierN.toNat ≤ 255) :
    65536 ≤ (updatePeriod c m f).periodEst.toNat ∧ TimingSound c (updatePeriod c m f) := by
  have fresh {f' : FsmState} (hest : 65536 ≤ f'.periodEst.toNat) (hcnt : f'.outlCnt = 0) :
      65536 ≤ f'.periodEst.toNat ∧ TimingSound c f' := ⟨hest, timingSound_of_fresh hf hest hcnt⟩
  by_cases hest : f.periodEst = 0
  · rw [updatePeriod_of_unmeasured c hest]
    refine fresh ?_ rfl
    rw [seedPeriod, BitVec.toNat_ofNat]
    omega
  · have hmeasured : 65536 ≤ f.periodEst.toNat := hf.period.resolve_left hest
    by_cases hin : inBand f.periodEst.toNat m = true
    · rw [updatePeriod_of_inside c hest hin]
      obtain ⟨-, hlo, -⟩ := smoothPeriod_periodEst hper hmhi f
      exact fresh ((le_min hmeasured hmlo).trans hlo) rfl
    · rw [updatePeriod_of_outside c hest hin]
      obtain hroom | hfull := lt_or_ge (f.outlCnt.toNat + 1) c.outlierN.toNat
      · refine ⟨?_, timingSound_of_room hf hmlo hmhi hn hroom⟩
        rw [outlierPeriod_of_room c hroom]
        exact hmeasured
      · rw [outlierPeriod_of_full c hfull]
        refine fresh ?_ rfl
        rw [toNat_ofNat_accumulated hf hmlo hmhi]
        exact (accumulated_bounds hf hmlo hmhi).1

end

/-! ### The statement -/

/-- Settles O48: each way of the estimate by its formula, which its register keeps. -/
theorem measureFollowsItsSteps : Obligations.MeasureFollowsItsSteps := by
  intro c raw f o hraw hperLo hperHi hcount hn hperiod haccumulator m est inside acc r
  have hf : TimingSound c f := ⟨hperiod, hcount, haccumulator⟩
  have hper : LegalCoeff c.perA := ⟨hperLo, hperHi⟩
  obtain ⟨hmlo, hmhi⟩ : 65536 ≤ m ∧ m < 4294967296 := reading_bounds hraw
  have hzero : est = 0 ↔ f.periodEst = 0 := BitVec.toNat_inj (y := 0#32)
  have hinside : inside ↔ inBand f.periodEst.toNat m = true := (inBand_iff _ _).symm
  have hr : r.1 = updatePeriod c m f := rfl
  obtain ⟨hstage, hsynced, htick, hlast, hphOfs⟩ := updatePeriod_frame c m f
  rw [hr]
  refine ⟨fun h0 => ?seed, fun hne hin => ?smooth, fun hne hout hroom => ?keep, fun hne hout hfull => ?adopt,
    (updatePeriod_sound hf hmlo hmhi hper hn).1, freqOfPeriod_freq_toNat _ o, rfl, hstage, hsynced, htick, hlast, hphOfs⟩
  case seed =>
    rw [updatePeriod_of_unmeasured c (hzero.1 h0)]
    exact ⟨(BitVec.toNat_ofNat ..).trans (Nat.mod_eq_of_lt hmhi), rfl, rfl⟩
  case smooth =>
    rw [updatePeriod_of_inside c (mt hzero.2 hne) (hinside.1 hin)]
    obtain ⟨hest, hlo, hhi⟩ := smoothPeriod_periodEst hper hmhi f
    exact ⟨hest, hlo, hhi, rfl, rfl⟩
  case keep =>
    rw [updatePeriod_of_outside c (mt hzero.2 hne) (mt hinside.2 hout), outlierPeriod_of_room c hroom]
    refine ⟨rfl, toNat_ofNat_accumulated hf hmlo hmhi, ?_⟩
    rw [BitVec.toNat_ofNat]
    omega
  case adopt =>
    rw [updatePeriod_of_outside c (mt hzero.2 hne) (mt hinside.2 hout), outlierPeriod_of_full c hfull]
    exact ⟨toNat_ofNat_accumulated hf hmlo hmhi, rfl, rfl⟩

end Sys2Proof.Proofs
end

section
/-! SUPPORT. 45_sustain_fsm.md: the two tracking variants (R166, R169, R192) and the samples without tracking (R184, R187); and
46_level_regulator.md R212: what of a sample the regulator reaches. -/

namespace Sys2Proof.Proofs

open Sys2Proof.Machine

/-! ### The variant's registers through a sample -/

/-- The registers of the direct-timing measurement (10 R16). -/
def timingRegs (f : FsmState) : Word × Word × Word × BitVec 8 := (f.lastEdge, f.periodEst, f.outlAcc, f.outlCnt)

theorem timingRegs_eq_iff (f f' : FsmState) : timingRegs f = timingRegs f' ↔
    f.lastEdge = f'.lastEdge ∧ f.periodEst = f'.periodEst ∧ f.outlAcc = f'.outlAcc ∧ f.outlCnt = f'.outlCnt := by
  simp [timingRegs]

/-- The compensation writes none of the variant's registers (45 R179, R180). -/
theorem track_variantRegs (e : Bool) (s : State) :
    (track e s).pll = (trackVariant e s).pll ∧ timingRegs (track e s).fsm = timingRegs (trackVariant e s).fsm ∧
    (track e s).osc.freq = (trackVariant e s).osc.freq := by
  simp [track, timingRegs]

theorem trackingStart_pll (x : Word) (s : State) :
    (trackingStart x s).pll = if s.fsm.stage = .stopped then ⟨false, false, false, true, 0⟩ else s.pll := by
  unfold trackingStart; split <;> rfl

theorem trackingStart_trg (x : Word) (s : State) : (trackingStart x s).trg = (afterFront x s).trg := by
  unfold trackingStart; split <;> rfl

/-- A tracked sample leaves the variant's registers as the variant's tracking does. -/
theorem sampleState_variantRegs (w : Word → Int) {x : Word} {s : State} (hst : s.fsm.stage ≠ .releasing)
    (ha : activity x s = true) :
    (sampleState w x s).pll = (trackVariant (edgeOf x s) (trackingStart x s)).pll ∧
    timingRegs (sampleState w x s).fsm = timingRegs (trackVariant (edgeOf x s) (trackingStart x s)).fsm ∧
    (sampleState w x s).osc.freq = (trackVariant (edgeOf x s) (trackingStart x s)).osc.freq := by
  rw [sampleState_tracked w hst ha]
  exact track_variantRegs ..

/-- Any other sample leaves them alone, except that an entry to Stopped clears the timing. -/
theorem sampleState_variantRegs_untracked (w : Word → Int) {x : Word} {s : State}
    (h : ¬(s.fsm.stage ≠ .releasing ∧ activity x s = true)) :
    (sampleState w x s).pll = s.pll ∧
    ((sampleState w x s).fsm.stage ≠ .stopped ∨ s.fsm.stage = .stopped →
      timingRegs (sampleState w x s).fsm = timingRegs s.fsm) := by
  obtain ⟨hs, ha⟩ | hcleared | hreleasing | htracked := sample_kinds x s
  · rw [sample_stopped_silent w hs ha]
    exact ⟨rfl, fun _ => rfl⟩
  · have hnot : s.fsm.stage ≠ .stopped := by obtain ⟨hs, -⟩ | ⟨hs, -⟩ := hcleared <;> simp [hs]
    rw [sampleState_entersStopped w hcleared]
    exact ⟨rfl, fun hstage => absurd hstage (not_or.2 ⟨not_not.2 rfl, hnot⟩)⟩
  · rw [sampleState_soundsOn w hreleasing]
    exact ⟨rfl, fun _ => rfl⟩
  · exact absurd htracked h

/-- The edge of a sample is the rise of the trigger's output. -/
theorem edgeOf_eq (x : Word) (s : State) : edgeOf x s = ((afterFront x s).trg.trig && !s.trg.trig) := rfl

/-! ### Other regulator registers -/

/-- `s` with other regulator registers and another target. -/
def withLevel (r : LevelState) (g : Word) (s : State) : State := { s with reg := r, target := g }

/-- The same of a state with an output: `OUT` is made anew from `SYNTH` (46 R212). -/
def withLevelOut (r : LevelState) (g : Word) (s : State) : State :=
  { withLevel r g s with out := ⟨s.out.synth, u32 (mulq (s32 r.gain) (s32 s.out.synth))⟩ }

section
variable (r : LevelState) (g : Word)

theorem trackVariant_withLevel (e : Bool) (s : State) :
    trackVariant e (withLevel r g s) = withLevel r g (trackVariant e s) := by
  cases hmode : directMode s.cfg with
  | true => rw [trackVariant_direct e s hmode, trackVariant_direct e (withLevel r g s) hmode]; rfl
  | false => rw [trackVariant_pll_mode e s hmode, trackVariant_pll_mode e (withLevel r g s) hmode]; rfl

theorem compensateAt_withLevel (e : Bool) (s : State) :
    compensateAt e (withLevel r g s) = withLevel r g (compensateAt e s) := by
  by_cases h : e = true ∧ 0 < trackedPeriod s
  · obtain ⟨rfl, hperiod⟩ := h
    rw [compensateAt_of_edge hperiod, compensateAt_of_edge (s := withLevel r g s) hperiod]
    rfl
  · rw [compensateAt_of_not h, compensateAt_of_not (s := withLevel r g s) h]

theorem track_withLevel (e : Bool) (s : State) : track e (withLevel r g s) = withLevel r g (track e s) := by
  rw [track, trackVariant_withLevel, compensateAt_withLevel, track]

theorem trackingStart_withLevel (x : Word) (s : State) :
    trackingStart x (withLevel r g s) = withLevel r g (trackingStart x s) := by
  have hstage : (withLevel r g s).fsm.stage = s.fsm.stage := rfl
  rw [trackingStart, trackingStart, hstage]
  split <;> rfl

theorem inQ_zero : InQ 0 := by decide

/-- Only here the regulator is read: in the product that makes `OUT`. -/
theorem emit_withLevel {v : Int} (hv : InQ v) (s : State) :
    emit v (withLevel r g s) = withLevelOut r g (emit v s) := by
  rw [withLevelOut, emit_out, s32_u32 hv]
  rfl

theorem finish_withLevel (st : Stage) (s : State) :
    finish wave st (withLevel r g s) = withLevelOut r g (finish wave st s) := by
  have ends {v : Int} (hv : InQ v) :=
    emit_withLevel r g hv { s with osc := oscAdvance s.osc, fsm := { s.fsm with stage := st } }
  cases st with
  | stopped => exact ends inQ_zero
  | waiting => exact ends inQ_zero
  | running => exact ends (wave_inQ _)
  | releasing => exact ends (wave_inQ _)

/-- A sample carries other regulator registers through to its end, and there only `OUT` tells. -/
theorem sampleState_withLevel (x : Word) (s : State) :
    sampleState wave x (withLevel r g s) = withLevelOut r g (sampleState wave x s) := by
  obtain ⟨hs, ha⟩ | hcleared | hreleasing | ⟨hst, ha⟩ := sample_kinds x s
  · rw [sample_stopped_silent wave hs ha, sample_stopped_silent wave (s := withLevel r g s) hs ha]
    exact emit_withLevel r g inQ_zero (afterFront x s)
  · rw [sampleState_entersStopped wave hcleared, sampleState_entersStopped wave (s := withLevel r g s) hcleared]
    exact emit_withLevel r g inQ_zero (enterStopped (afterFront x s))
  · rw [sampleState_soundsOn wave hreleasing, sampleState_soundsOn wave (s := withLevel r g s) hreleasing]
    exact finish_withLevel r g .releasing (afterFront x s)
  · rw [sampleState_tracked wave hst ha, sampleState_tracked wave (s := withLevel r g s) hst ha, trackingStart_withLevel,
      track_withLevel]
    exact finish_withLevel r g _ _

end

/-! ### The statements -/

/-- Settles O36: both kinds of samples sound on in Releasing. -/
theorem releasingSoundsOn : Obligations.ReleasingSoundsOn := by
  intro x s hrun hsounds
  rw [exec_sample_run hrun, sampleState_soundsOn wave hsounds, finish_eq_emit_wave (.inr rfl)]
  rfl

/-- Settles O38: a tracked sample leaves what its variant's tracking leaves, any other leaves both variants' registers alone. -/
theorem trackingVariantsStayApart : Obligations.TrackingVariantsStayApart := by
  intro x s t hrun ht
  have hgate : t.agc.gate = activity x s := by rw [exec_sample_agc hrun ht]
  obtain rfl := exec_sample_next hrun ht
  rw [hgate]
  simp only [respond_pll, respond_fsm, respond_osc, respond_trg, sampleState_trg, ← timingRegs_eq_iff, ← edgeOf_eq]
  have hmode {b : Bool} (h : s.cfg.mode.getLsbD 0 = b) : directMode (trackingStart x s).cfg = b := by
    rw [trackingStart_cfg]
    exact h
  refine ⟨fun hdirect => ?onset, fun hpll hstage => ?timing, fun hpll ha hst => ?pllTracked, fun hdirect ha hst => ?directTracked⟩
  case onset =>
    by_cases htracked : s.fsm.stage ≠ .releasing ∧ activity x s = true
    · obtain ⟨hst, ha⟩ := htracked
      obtain ⟨hp, -, -⟩ := sampleState_variantRegs wave hst ha
      rw [hp, trackVariant_direct _ _ (hmode hdirect), trackingStart_pll]
      simp only [ha, and_true]
    · have hnot : ¬(s.fsm.stage = .stopped ∧ activity x s = true) := fun ⟨hs, ha⟩ => htracked ⟨by simp [hs], ha⟩
      rw [if_neg hnot]
      exact (sampleState_variantRegs_untracked wave htracked).1
  case timing =>
    by_cases htracked : s.fsm.stage ≠ .releasing ∧ activity x s = true
    · obtain ⟨-, htiming, -⟩ := sampleState_variantRegs wave htracked.1 htracked.2
      rw [htiming, trackVariant_pll_mode _ _ (hmode hpll), trackingStart_fsm]
    · exact (sampleState_variantRegs_untracked wave htracked).2 hstage
  case pllTracked =>
    obtain ⟨hp, -, hfreq⟩ := sampleState_variantRegs wave hst ha
    rw [hp, hfreq, trackVariant_pll_mode _ _ (hmode hpll), ← trackingStart_pll x s, ← trackingStart_trg x s,
      trackingStart_cfg, trackingStart_osc, trackingStart_fsm]
  case directTracked =>
    obtain ⟨-, htiming, hfreq⟩ := sampleState_variantRegs wave hst ha
    rw [trackVariant_direct _ _ (hmode hdirect), trackingStart_cfg, trackingStart_osc, trackingStart_fsm] at htiming hfreq
    obtain ⟨hlast, hest, hacc, hcnt⟩ := (timingRegs_eq_iff ..).1 htiming
    exact ⟨hlast, hest, hacc, hcnt, hfreq⟩

/-- Settles O44: the sample of the second state is the sample of the first with other regulator registers. -/
theorem regulatorReachesOnlyOut : Obligations.RegulatorReachesOnlyOut := by
  intro x s t r g hrun ht out
  obtain rfl := exec_sample_next hrun ht
  have hsecond : exec (.sample x) (withLevel r g s) =
      .next (answered (withLevelOut r g (sampleState wave x s)).out.out (withLevelOut r g (sampleState wave x s))) := by
    rw [exec_sample_run (s := withLevel r g s) hrun, sampleState_withLevel]
  exact hsecond

end Sys2Proof.Proofs
end

section
/-! SUPPORT. 10_state.md R28: the invariant. First the front end and the trackers of a sample; then the sample; then the other
commands, each by the registers it writes; then every step, and every run. -/

namespace Sys2Proof.Proofs

open Sys2Proof.Machine

/-! ### The front end -/

/-- The normalised sample is a saturated product or 0 (42 R121). -/
theorem normalised_inQ (c : ConfigRegs) (a : AgcState) (x : Int) : InQ (agcStep c a x).2 := by
  rw [agcStep_norm, normalise]
  split
  · exact mulq_inQ ..
  · exact inQ_zero

theorem peakHold_nonneg (c : ConfigRegs) (x ph : Int) : 0 ≤ peakHold c x ph := le_max_right ..

theorem afterFront_php_nonneg (x : Word) (s : State) : 0 ≤ s32 (afterFront x s).trg.php := by
  rw [frontEnd_trg, s32_triggerStep_php _ _ _ (normalised_inQ ..)]
  exact peakHold_nonneg ..

theorem afterFront_phn_nonneg (x : Word) (s : State) : 0 ≤ s32 (afterFront x s).trg.phn := by
  rw [frontEnd_trg, s32_triggerStep_phn]
  exact peakHold_nonneg ..

/-! ### The trackers -/

/-- What the invariant says of the oscillator, the phase detector and the direct timing, in every stage. -/
structure TrackersSound (s : State) : Prop where
  freqRange : s.osc.freq.toNat ≤ 2147483648
  latchesApart : ¬(s.pll.ffSig = true ∧ s.pll.ffRef = true)
  prevErr : s.pll.prevErr.toInt = -1 ∨ s.pll.prevErr.toInt = 0 ∨ s.pll.prevErr.toInt = 1
  timing : TimingSound s.cfg s.fsm

theorem oscSetFreq_freq_le (v : Int) (o : OscState) : (oscSetFreq v o).freq.toNat ≤ 2147483648 := by
  have hfreq : ((oscSetFreq v o).freq.toNat : Int) ≤ Config.freqMax := by
    rw [oscSetFreq_freq_toNat]
    exact (clamp_bounds (by decide)).2
  rw [Config.freqMax] at hfreq
  omega

section
variable (c : ConfigRegs) (p : PllState) (o : OscState) (phOfs : Word) (sig : Bool)

/-- The clear leaves at most one latch set (44 R153). -/
theorem pllStep_latchesApart : ¬((pllStep c p o phOfs sig).1.ffSig = true ∧ (pllStep c p o phOfs sig).1.ffRef = true) := by
  obtain ⟨hsig, href, -⟩ := pllFollowsItsSteps c p o phOfs sig
  rw [hsig, href]
  simp only [Bool.and_eq_true, Bool.not_eq_true']
  rintro ⟨⟨-, hno⟩, hyes, -⟩
  rw [hno] at hyes
  cases hyes

/-- `PREV_ERR` keeps an error of -1, 0 or 1 (44 R156). -/
theorem pllStep_prevErr : (pllStep c p o phOfs sig).1.prevErr.toInt = -1 ∨ (pllStep c p o phOfs sig).1.prevErr.toInt = 0 ∨
    (pllStep c p o phOfs sig).1.prevErr.toInt = 1 := by
  have hkept : (pllStep c p o phOfs sig).1.prevErr.toInt = phaseError (phaseDetect p sig (refLevel o.phase phOfs)) :=
    toInt_ofInt_phaseError _
  obtain ⟨hlo, hhi⟩ := phaseError_bounds (phaseDetect p sig (refLevel o.phase phOfs))
  rw [hkept]
  omega

end

/-- Direct timing keeps the timing registers sound and the frequency in its range (45 R170 to R176). -/
theorem directTiming_sound {c : ConfigRegs} (hc : LegalConfig c) {f : FsmState} (hf : TimingSound c f) {o : OscState}
    (ho : o.freq.toNat ≤ 2147483648) (edge : Bool) :
    TimingSound c (directTiming c f o edge).1 ∧ (directTiming c f o edge).2.freq.toNat ≤ 2147483648 := by
  have recorded {f' : FsmState} (h : TimingSound c f') : TimingSound c { f' with lastEdge := f.tick } :=
    ⟨h.period, h.count, h.accumulator⟩
  by_cases hquiet : edge = false ∨ f.tick = 0
  · rw [directTiming_of_no_edge c o hquiet]
    exact ⟨hf, ho⟩
  · obtain ⟨hedge, htick⟩ := not_or.1 hquiet
    obtain rfl : edge = true := by simpa using hedge
    by_cases hfirst : f.lastEdge = 0 ∨ f.lastEdge = f.tick
    · rw [directTiming_of_no_reading c o htick hfirst]
      exact ⟨recorded hf, ho⟩
    · obtain ⟨hlast, hne⟩ := not_or.1 hfirst
      obtain ⟨hmlo, hmhi⟩ := reading_bounds ((edgeInterval_pos_iff f).2 hne)
      rw [directTiming_of_reading c o htick hlast hne]
      exact ⟨recorded (updatePeriod_sound hf hmlo hmhi hc.perA hc.outlierN.2).2, oscSetFreq_freq_le ..⟩

section
variable {s : State} (hs : TrackersSound s)
include hs

theorem trackVariant_sound (hc : LegalConfig s.cfg) (e : Bool) : TrackersSound (trackVariant e s) := by
  cases hmode : directMode s.cfg with
  | true =>
    obtain ⟨htiming, hfreq⟩ := directTiming_sound hc hs.timing hs.freqRange e
    rw [trackVariant_direct e s hmode]
    exact ⟨hfreq, hs.latchesApart, hs.prevErr, htiming⟩
  | false =>
    rw [trackVariant_pll_mode e s hmode]
    exact ⟨oscSetFreq_freq_le .., pllStep_latchesApart s.cfg _ _ _ _, pllStep_prevErr s.cfg _ _ _ _, hs.timing⟩

theorem compensateAt_sound (e : Bool) : TrackersSound (compensateAt e s) where
  freqRange := by rw [compensateAt_freq]; exact hs.freqRange
  latchesApart := by rw [compensateAt_pll]; exact hs.latchesApart
  prevErr := by rw [compensateAt_pll]; exact hs.prevErr
  timing := {
    period := by rw [compensateAt_periodEst]; exact hs.timing.period
    count := by rw [compensateAt_outlCnt, compensateAt_cfg]; exact hs.timing.count
    accumulator := by rw [compensateAt_outlCnt, compensateAt_outlAcc]; exact hs.timing.accumulator }

theorem trackingStart_sound (x : Word) : TrackersSound (trackingStart x s) := by
  unfold trackingStart
  split
  · exact ⟨hs.freqRange, by simp, by simp, hs.timing⟩
  · exact ⟨hs.freqRange, hs.latchesApart, hs.prevErr, hs.timing⟩

theorem emit_sound (v : Int) : TrackersSound (emit v s) :=
  ⟨hs.freqRange, hs.latchesApart, hs.prevErr, hs.timing.period, hs.timing.count, hs.timing.accumulator⟩

theorem finish_sound (w : Word → Int) (st : Stage) : TrackersSound (finish w st s) :=
  ⟨hs.freqRange, hs.latchesApart, hs.prevErr, hs.timing.period, hs.timing.count, hs.timing.accumulator⟩

theorem enterStopped_sound : TrackersSound (enterStopped s) where
  freqRange := Nat.zero_le _
  latchesApart := hs.latchesApart
  prevErr := hs.prevErr
  timing := {
    period := .inl rfl
    count := Nat.zero_lt_of_lt hs.timing.count
    accumulator := fun h => absurd rfl h }

theorem afterFront_sound (x : Word) : TrackersSound (afterFront x s) :=
  ⟨hs.freqRange, hs.latchesApart, hs.prevErr, hs.timing⟩

/-- Every kind of sample keeps the trackers sound. -/
theorem sampleState_trackersSound (hc : LegalConfig s.cfg) (w : Word → Int) (x : Word) :
    TrackersSound (sampleState w x s) := by
  obtain ⟨hst, ha⟩ | hcleared | hreleasing | ⟨hst, ha⟩ := sample_kinds x s
  · rw [sample_stopped_silent w hst ha]
    exact emit_sound (afterFront_sound hs x) 0
  · rw [sampleState_entersStopped w hcleared]
    exact emit_sound (enterStopped_sound (afterFront_sound hs x)) 0
  · rw [sampleState_soundsOn w hreleasing]
    exact finish_sound (afterFront_sound hs x) w .releasing
  · rw [sampleState_tracked w hst ha]
    have hlegal : LegalConfig (trackingStart x s).cfg := by rw [trackingStart_cfg]; exact hc
    exact finish_sound (compensateAt_sound (trackVariant_sound (trackingStart_sound hs x) hlegal _) _) w _

end

/-! ### The sample -/

/-- In Stopped the oscillator and the onset counters are clear (10 R28). -/
def StoppedClear (s : State) : Prop := s.fsm.stage = .stopped →
  s.osc.freq = 0 ∧ s.osc.phase = 0 ∧ s.fsm.synced = false ∧ s.fsm.lastEdge = 0 ∧ s.fsm.periodEst = 0 ∧ s.fsm.outlCnt = 0

/-- A sample that ends in Stopped has just cleared them, or began in Stopped and wrote none of them. -/
theorem sampleState_stoppedClear {s : State} (hs : StoppedClear s) (w : Word → Int) (x : Word) :
    StoppedClear (sampleState w x s) := by
  obtain ⟨hst, ha⟩ | hcleared | hreleasing | ⟨hst, ha⟩ := sample_kinds x s
  · rw [sample_stopped_silent w hst ha]
    exact hs
  · rw [sampleState_entersStopped w hcleared]
    exact fun _ => ⟨rfl, rfl, rfl, rfl, rfl, rfl⟩
  · rw [sampleState_soundsOn w hreleasing]
    exact nofun
  · rw [sampleState_tracked w hst ha]
    exact fun hstop => absurd hstop (trackedStage_ne_stopped _ _)

theorem trackersSound_of_sound {s : State} (hs : Sound s) (ho : OutliersSound s) : TrackersSound s :=
  ⟨hs.freqRange, hs.latchesApart, hs.prevErr, hs.periodRange, ho.count, ho.accumulator⟩

/-- A `SAMPLE` keeps the list of 10 R28: the front end by its steps, the gain untouched, the trackers by theirs. -/
theorem sampleState_sound {s : State} (hc : LegalConfig s.cfg) (hs : Sound s) (ho : OutliersSound s) (x : Word) :
    Sound (sampleState wave x s) ∧ OutliersSound (sampleState wave x s) := by
  have ht := sampleState_trackersSound (trackersSound_of_sound hs ho) hc wave x
  refine ⟨?_, ht.timing.count, ht.timing.accumulator⟩
  exact {
    freqRange := ht.freqRange
    envNonneg := by rw [sampleState_agc]; exact agcStep_env_nonneg hc hs.envNonneg _
    phpNonneg := by rw [sampleState_trg]; exact afterFront_php_nonneg x s
    phnNonneg := by rw [sampleState_trg]; exact afterFront_phn_nonneg x s
    latchesApart := ht.latchesApart
    prevErr := ht.prevErr
    gainRange := by rw [sampleState_reg, sampleState_cfg]; exact hs.gainRange
    periodRange := ht.timing.period
    stoppedClear := sampleState_stoppedClear hs.stoppedClear wave x
    gateEnv := by
      rw [sampleState_agc, sampleState_cfg]
      exact fun hopen => ⟨agcStep_env_of_open hc hopen, hc.gateLo⟩ }

/-! ### The other commands -/

/-- The invariant says nothing of `TARGET` and the ports, and of `ERR` that it holds a code. -/
theorem invariant_of_ports {s : State} (h : Invariant s) {err : BitVec 4} (herr : err.toNat ≤ 6) (target : Word)
    (host : List HostEvent) (rsp : Option Response) :
    Invariant { s with err := err, target := target, host := host, rsp := rsp } where
  errCode := herr
  configMode := h.configMode
  runMode := fun hrun =>
    have ⟨hc, hs, ho⟩ := h.runMode hrun
    ⟨hc,
      ⟨hs.freqRange, hs.envNonneg, hs.phpNonneg, hs.phnNonneg, hs.latchesApart, hs.prevErr, hs.gainRange, hs.periodRange,
        hs.stoppedClear, hs.gateEnv⟩,
      ⟨ho.count, ho.accumulator⟩⟩

/-- A legal configuration is sound over the datapath at reset. -/
theorem sound_of_datapathAtReset {s : State} (hd : DatapathAtReset s) (hc : LegalConfig s.cfg) :
    Sound s ∧ OutliersSound s := by
  obtain ⟨hosc, hagc, htrg, hpll, hfsm, hreg, -⟩ := hd
  refine ⟨⟨?_, ?_, ?_, ?_, ?_, ?_, ?_, ?_, ?_, ?_⟩, ?_, ?_⟩
  all_goals simp only [hosc, hagc, htrg, hpll, hfsm, hreg]
  · decide
  · decide
  · decide
  · decide
  · decide
  · decide
  · exact ⟨by decide, hc.maxGain⟩
  · exact .inl rfl
  · exact fun _ => ⟨rfl, rfl, rfl, rfl, rfl, rfl⟩
  · exact nofun
  · exact hc.outlierN.1
  · exact fun hne => absurd rfl hne

/-- New regulator registers keep the invariant in RUN mode if the gain is in its range. -/
theorem invariant_of_gain {s : State} (h : Invariant s) (hrun : s.run = true) {r : LevelState}
    (hgain : 0 ≤ s32 r.gain ∧ s32 r.gain ≤ s32 s.cfg.maxGain) : Invariant { s with reg := r } where
  errCode := h.errCode
  configMode := fun hconfig => nomatch hrun.symm.trans hconfig
  runMode := fun _ =>
    have ⟨hc, hs, ho⟩ := h.runMode hrun
    ⟨hc,
      ⟨hs.freqRange, hs.envNonneg, hs.phpNonneg, hs.phnNonneg, hs.latchesApart, hs.prevErr, hgain, hs.periodRange,
        hs.stoppedClear, hs.gateEnv⟩,
      ⟨ho.count, ho.accumulator⟩⟩

theorem invariant_afterReset (events : List HostEvent) : Invariant (afterReset events) where
  errCode := Nat.zero_le _
  configMode := fun _ => ⟨rfl, rfl, rfl, rfl, rfl, rfl, rfl⟩
  runMode := nofun

section
variable {s : State} (h : Invariant s)
include h

theorem invariant_sample (hrun : s.run = true) (x : Word) : Invariant (sampleState wave x s) where
  errCode := by rw [sampleState_err]; exact h.errCode
  configMode := fun hconfig => by rw [sampleState_run, hrun] at hconfig; cases hconfig
  runMode := fun _ => by
    obtain ⟨hc, hs, ho⟩ := h.runMode hrun
    refine ⟨?_, sampleState_sound hc hs ho x⟩
    rw [sampleState_cfg]
    exact hc

/-- The clamp keeps the gain in its range (46 R207). -/
theorem invariant_regulate (hrun : s.run = true) : Invariant (effectOf .regulate s) := by
  obtain ⟨hc, -, -⟩ := h.runMode hrun
  refine invariant_of_gain h hrun ?_
  rw [s32_levelStep_gain hc.maxGain]
  exact clamp_bounds hc.maxGain

theorem invariant_rginit (hrun : s.run = true) : Invariant (effectOf .rginit s) := by
  obtain ⟨hc, -, -⟩ := h.runMode hrun
  exact invariant_of_gain h hrun ⟨by decide, hc.maxGain⟩

/-- In CONFIG mode the invariant does not look at the configuration. -/
theorem invariant_wrcfg (hrun : s.run = false) (k : BitVec 8) (v : Word) : Invariant (effectOf (.wrcfg k v) s) where
  errCode := h.errCode
  configMode := h.configMode
  runMode := fun hrun' => nomatch hrun.symm.trans hrun'

theorem invariant_start (hrun : s.run = false) (hc : LegalConfig s.cfg) : Invariant (effectOf .start s) where
  errCode := h.errCode
  configMode := nofun
  runMode := fun _ => ⟨hc, sound_of_datapathAtReset (s := effectOf .start s) (h.configMode hrun) hc⟩

/-- Every command that no check refuses keeps the invariant. -/
theorem invariant_effectOf {i : Instr} (hi : errorOf i s = none) : Invariant (effectOf i s) := by
  cases i with
  | nop => exact h
  | sample x => exact invariant_sample h (by simpa [errorOf] using hi) x
  | regulate => exact invariant_regulate h (by simpa [errorOf] using hi)
  | settgt v => exact invariant_of_ports h h.errCode v s.host s.rsp
  | wrcfg k v =>
    cases hrun : s.run with
    | false => exact invariant_wrcfg h hrun k v
    | true => simp [errorOf, hrun] at hi
  | rdreg k => exact h
  | start =>
    obtain ⟨hrun, hc⟩ := legalConfig_of_start hi
    exact invariant_start h hrun hc
  | rginit => exact invariant_rginit h (by simpa [errorOf] using hi)
  | reset => exact invariant_afterReset s.host

/-- So does every error: the sticky write puts in a code of 60 R237. -/
theorem invariant_failed (e : ErrCode) : Invariant (failed e s) := by
  refine invariant_of_ports h ?_ s.target s.host _
  split
  · cases e <;> decide
  · exact h.errCode

end

/-! ### Steps and runs -/

theorem step_keeps_invariant {s t : State} (h : Invariant s) (ht : step s = .next t) : Invariant t := by
  have taken (rest : List HostEvent) : Invariant { s with host := rest } := invariant_of_ports h h.errCode s.target rest s.rsp
  obtain ⟨-, rfl⟩ | ⟨rest, -, rfl⟩ | ⟨w, rest, e, -, -, rfl⟩ | ⟨i, rest, -, hi, rfl⟩ := step_next ht
  · exact invariant_of_ports h h.errCode s.target s.host none
  · exact invariant_afterReset rest
  · exact invariant_failed (taken rest) e
  · have heffect := invariant_effectOf (taken rest) hi
    exact invariant_of_ports heffect heffect.errCode _ _ _

theorem run_succ {M : Host.Core} {s u : M.State} (hu : M.step s = .next u) (n : Nat) : M.run (n + 1) s = M.run n u := by
  rw [Host.Core.run, hu]

/-- From a state that meets the invariant every run reaches one that does. -/
theorem run_keeps_invariant (n : Nat) {s : State} (h : Invariant s) :
    ∃ t : State, Sys2Proof.core.run n s = .next t ∧ Invariant t := by
  induction n generalizing s with
  | zero => exact ⟨s, rfl, h⟩
  | succ n ih =>
    obtain ⟨u, hu⟩ := everyStepAnswers s
    obtain ⟨t, ht, hinv⟩ := ih (step_keeps_invariant h hu)
    exact ⟨t, (run_succ (M := Sys2Proof.core) hu n).trans ht, hinv⟩

/-! ### The statements -/

/-- Settles O59: by what the step did: nothing, a reset, an error, or the effect of a command. -/
theorem everyStepKeepsTheInvariant : Obligations.EveryStepKeepsTheInvariant := fun _ _ => step_keeps_invariant

/-- Settles O58: the reset state is in CONFIG mode with the datapath at reset. -/
theorem invariantHoldsAtReset : Obligations.InvariantHoldsAtReset := invariant_afterReset

/-- Settles O60: the invariant along the run, which in RUN mode holds the list. -/
theorem everyRunFromResetIsSound : Obligations.EveryRunFromResetIsSound := by
  intro events n
  obtain ⟨t, ht, hinv⟩ := run_keeps_invariant n (invariant_afterReset events)
  refine ⟨t, ht, fun hrun => ?_⟩
  obtain ⟨hc, hs, -⟩ := hinv.runMode hrun
  exact ⟨hs, hc⟩

end Sys2Proof.Proofs
end
